-- ==== Sys2Proof/Word.lean ====
section
/-! DEFINITION. Word.lean: the words of the SKH core (00_scope R4, R8, R11), limb triples (10_state R23) and the two
moduli. All values are unsigned; bit 0 of every word is the least significant (R8, 20_memory R53). -/

namespace Sys2Proof

/-- A narrow word, `u32` (00_scope R4). -/
abbrev U32 := BitVec 32

/-- A scalar word, `u64` (00_scope R4). -/
abbrev U64 := BitVec 64

/-- A wide product, `u128` (00_scope R4). -/
abbrev U128 := BitVec 128

/-- A limb triple `(l0, l1, l2)`, least significant limb first: the contents of a limb register and of one entry of
the coefficient memory (10_state R23, 20_memory R50, R53). -/
structure Limbs where
  /-- bits 31:0 -/
  l0 : U32
  /-- bits 63:32 -/
  l1 : U32
  /-- bits 95:64 -/
  l2 : U32
deriving DecidableEq, Repr

/-- The triple `(0, 0, 0)`. -/
def Limbs.zero : Limbs := ⟨0, 0, 0⟩

/-- `val96`: the number a limb triple stands for, exact (00_scope R11). -/
def Limbs.val96 (t : Limbs) : Nat := t.l0.toNat + t.l1.toNat * 2 ^ 32 + t.l2.toNat * 2 ^ 64

/-- `P61 = 2^61 - 1` (00_scope R4, 44_mod61). -/
def p61 : Nat := 2 ^ 61 - 1

/-- `P89 = 2^89 - 1` (00_scope R4, 45_mod89). -/
def p89 : Nat := 2 ^ 89 - 1

end Sys2Proof
end

