-- ==== Sys2Proof/Syntax.lean ====
section
/-! DEFINITION. Syntax.lean: a command as presented on the command port (30_encoding R70) and the twenty-seven
commands of the opcode map (R77) with their operands, in the operand order of R83. -/

namespace Sys2Proof

/-- A command: a 32-bit command word and a 64-bit data word, presented together (30_encoding R70). -/
structure Command where
  /-- `cmd.word` -/
  word : U32
  /-- `cmd.data` -/
  data : U64
deriving DecidableEq, Repr

/-- A scalar register specifier; all sixteen values are legal (30_encoding R73). -/
abbrev XReg := BitVec 4

/-- A limb register specifier, 0..3 (30_encoding R73). -/
abbrev QReg := BitVec 2

/-- A vector register specifier, 0..3 (30_encoding R73). -/
abbrev VReg := BitVec 2

/-- The unsigned 8-bit immediate: control register number, lane index or coefficient index (30_encoding R75). -/
abbrev Imm := BitVec 8

/-- The twenty-seven commands (30_encoding R77). -/
inductive Instr where
  /-- `LI xd, value64` (47 R221); the value is the command's data word -/
  | li (xd : XReg) (value : U64)
  /-- `RD xs` (47 R222) -/
  | rd (xs : XReg)
  /-- `CRD xd, csr` (47 R232) -/
  | crd (xd : XReg) (csr : Imm)
  /-- `CWR csr, xs` (47 R233) -/
  | cwr (csr : Imm) (xs : XReg)
  /-- `PSEED xa, xb` (41 R103) -/
  | pseed (xa xb : XReg)
  /-- `PNEXT32 xd` (41 R104) -/
  | pnext32 (xd : XReg)
  /-- `PNEXT64 xd` (41 R105) -/
  | pnext64 (xd : XReg)
  /-- `MIXA64 xd, xs` (42 R125) -/
  | mixa64 (xd xs : XReg)
  /-- `MIXA32 xd, xs` (42 R126) -/
  | mixa32 (xd xs : XReg)
  /-- `MIXB64 xd, xs` (42 R127) -/
  | mixb64 (xd xs : XReg)
  /-- `VMIXA vd, vs` (43 R141) -/
  | vmixa (vd vs : VReg)
  /-- `VMIXB vd, vs` (43 R142) -/
  | vmixb (vd vs : VReg)
  /-- `VSET vd, xs, lane` (43 R144) -/
  | vset (vd : VReg) (xs : XReg) (lane : Imm)
  /-- `VGET xd, vs, lane` (43 R145) -/
  | vget (xd : XReg) (vs : VReg) (lane : Imm)
  /-- `VBCAST vd, xs` (43 R146) -/
  | vbcast (vd : VReg) (xs : XReg)
  /-- `RED61 xd, xlo, xhi` (44 R163) -/
  | red61 (xd xlo xhi : XReg)
  /-- `MULMOD61 xd, xa, xb` (44 R164) -/
  | mulmod61 (xd xa xb : XReg)
  /-- `FMAR89 qd, xs, qa, qb` (45 R186) -/
  | fmar89 (qd : QReg) (xs : XReg) (qa qb : QReg)
  /-- `RED89 xd, qs` (45 R187) -/
  | red89 (xd : XReg) (qs : QReg)
  /-- `QSET qd, xlo, xhi` (47 R226) -/
  | qset (qd : QReg) (xlo xhi : XReg)
  /-- `QGETL xd, qs` (47 R227) -/
  | qgetl (xd : XReg) (qs : QReg)
  /-- `QGETH xd, qs` (47 R228) -/
  | qgeth (xd : XReg) (qs : QReg)
  /-- `PEVAL xd, xs` (46 R206) -/
  | peval (xd xs : XReg)
  /-- `CGEN` (46 R207) -/
  | cgen
  /-- `CSET idx, qs` (46 R208) -/
  | cset (idx : Imm) (qs : QReg)
  /-- `CGET qd, idx` (46 R209) -/
  | cget (qd : QReg) (idx : Imm)
  /-- `VPEVAL vd, vs` (46 R210) -/
  | vpeval (vd vs : VReg)
deriving DecidableEq, Repr

end Sys2Proof
end

