-- ==== Sys2Proof/Decode.lean ====
section
/-! DEFINITION. Decode.lean: the six fields of a command word (30_encoding R72), the total decoder (R73, R74, R78 step 2)
and the encoder (R77, R83), and the rows of the opcode map as mask and match pairs (R77). -/

namespace Sys2Proof

/-- The six fields of a command word (30_encoding R72). -/
structure Fields where
  /-- bits 31:24 -/
  opcode : BitVec 8
  /-- bits 23:20 -/
  rd : BitVec 4
  /-- bits 19:16 -/
  rs1 : BitVec 4
  /-- bits 15:12 -/
  rs2 : BitVec 4
  /-- bits 11:8 -/
  rs3 : BitVec 4
  /-- bits 7:0 -/
  imm : BitVec 8
deriving DecidableEq, Repr

/-- Why a command word is illegal (30_encoding R79). Each is the one fault `IllegalCommand`. -/
inductive DecodeError where
  /-- an unassigned opcode -/
  | unassignedOpcode
  /-- a field the command does not use is not zero (R74) -/
  | unusedFieldNotZero
  /-- a limb or vector register specifier above 3 (R73) -/
  | specifierAbove3
deriving DecidableEq, Repr

/-- The fields of a word (30_encoding R72). -/
def fieldsOf (w : U32) : Fields where
  opcode := w.extractLsb' 24 8
  rd := w.extractLsb' 20 4
  rs1 := w.extractLsb' 16 4
  rs2 := w.extractLsb' 12 4
  rs3 := w.extractLsb' 8 4
  imm := w.extractLsb' 0 8

/-- The word with the given fields (30_encoding R72). -/
def wordOf (f : Fields) : U32 := f.opcode ++ f.rd ++ f.rs1 ++ f.rs2 ++ f.rs3 ++ f.imm

/-- A command word is legal only with its unused fields zero (30_encoding R74). -/
def unless0 (unusedZero : Bool) (r : Except DecodeError Instr) : Except DecodeError Instr :=
  if unusedZero then r else .error .unusedFieldNotZero

/-- A limb or vector specifier: the number 0..3 in the low two bits, the high two bits zero (30_encoding R73). -/
def withSpec (f : BitVec 4) (k : BitVec 2 → Except DecodeError Instr) : Except DecodeError Instr :=
  if f.toNat < 4 then k (f.setWidth 2) else .error .specifierAbove3

/-- The decoder on fields: the rows of 30_encoding R77 in the table's order. -/
def decodeFields (f : Fields) (data : U64) : Except DecodeError Instr :=
  match f.opcode.toNat with
  | 0x01 => unless0 (f.rs1 == 0 && f.rs2 == 0 && f.rs3 == 0 && f.imm == 0) (.ok (.li f.rd data))
  | 0x02 => unless0 (f.rd == 0 && f.rs2 == 0 && f.rs3 == 0 && f.imm == 0) (.ok (.rd f.rs1))
  | 0x08 => unless0 (f.rs1 == 0 && f.rs2 == 0 && f.rs3 == 0) (.ok (.crd f.rd f.imm))
  | 0x09 => unless0 (f.rd == 0 && f.rs2 == 0 && f.rs3 == 0) (.ok (.cwr f.imm f.rs1))
  | 0x10 => unless0 (f.rd == 0 && f.rs3 == 0 && f.imm == 0) (.ok (.pseed f.rs1 f.rs2))
  | 0x11 => unless0 (f.rs1 == 0 && f.rs2 == 0 && f.rs3 == 0 && f.imm == 0) (.ok (.pnext32 f.rd))
  | 0x12 => unless0 (f.rs1 == 0 && f.rs2 == 0 && f.rs3 == 0 && f.imm == 0) (.ok (.pnext64 f.rd))
  | 0x20 => unless0 (f.rs2 == 0 && f.rs3 == 0 && f.imm == 0) (.ok (.mixa64 f.rd f.rs1))
  | 0x21 => unless0 (f.rs2 == 0 && f.rs3 == 0 && f.imm == 0) (.ok (.mixa32 f.rd f.rs1))
  | 0x22 => unless0 (f.rs2 == 0 && f.rs3 == 0 && f.imm == 0) (.ok (.mixb64 f.rd f.rs1))
  | 0x28 => unless0 (f.rs2 == 0 && f.rs3 == 0 && f.imm == 0)
      (withSpec f.rd fun d => withSpec f.rs1 fun s => .ok (.vmixa d s))
  | 0x29 => unless0 (f.rs2 == 0 && f.rs3 == 0 && f.imm == 0)
      (withSpec f.rd fun d => withSpec f.rs1 fun s => .ok (.vmixb d s))
  | 0x2C => unless0 (f.rs2 == 0 && f.rs3 == 0) (withSpec f.rd fun d => .ok (.vset d f.rs1 f.imm))
  | 0x2D => unless0 (f.rs2 == 0 && f.rs3 == 0) (withSpec f.rs1 fun s => .ok (.vget f.rd s f.imm))
  | 0x2E => unless0 (f.rs2 == 0 && f.rs3 == 0 && f.imm == 0) (withSpec f.rd fun d => .ok (.vbcast d f.rs1))
  | 0x30 => unless0 (f.rs3 == 0 && f.imm == 0) (.ok (.red61 f.rd f.rs1 f.rs2))
  | 0x31 => unless0 (f.rs3 == 0 && f.imm == 0) (.ok (.mulmod61 f.rd f.rs1 f.rs2))
  | 0x38 => unless0 (f.imm == 0)
      (withSpec f.rd fun d => withSpec f.rs2 fun a => withSpec f.rs3 fun b => .ok (.fmar89 d f.rs1 a b))
  | 0x39 => unless0 (f.rs2 == 0 && f.rs3 == 0 && f.imm == 0) (withSpec f.rs1 fun s => .ok (.red89 f.rd s))
  | 0x3C => unless0 (f.rs3 == 0 && f.imm == 0) (withSpec f.rd fun d => .ok (.qset d f.rs1 f.rs2))
  | 0x3D => unless0 (f.rs2 == 0 && f.rs3 == 0 && f.imm == 0) (withSpec f.rs1 fun s => .ok (.qgetl f.rd s))
  | 0x3E => unless0 (f.rs2 == 0 && f.rs3 == 0 && f.imm == 0) (withSpec f.rs1 fun s => .ok (.qgeth f.rd s))
  | 0x40 => unless0 (f.rs2 == 0 && f.rs3 == 0 && f.imm == 0) (.ok (.peval f.rd f.rs1))
  | 0x41 => unless0 (f.rd == 0 && f.rs1 == 0 && f.rs2 == 0 && f.rs3 == 0 && f.imm == 0) (.ok .cgen)
  | 0x42 => unless0 (f.rd == 0 && f.rs2 == 0 && f.rs3 == 0) (withSpec f.rs1 fun s => .ok (.cset f.imm s))
  | 0x43 => unless0 (f.rs1 == 0 && f.rs2 == 0 && f.rs3 == 0) (withSpec f.rd fun d => .ok (.cget d f.imm))
  | 0x48 => unless0 (f.rs2 == 0 && f.rs3 == 0 && f.imm == 0)
      (withSpec f.rd fun d => withSpec f.rs1 fun s => .ok (.vpeval d s))
  | _ => .error .unassignedOpcode

/-- Decoding is a total function of the command word; the data word is used by `LI` alone (30_encoding R70, R78). -/
def decode (c : Command) : Except DecodeError Instr := decodeFields (fieldsOf c.word) c.data

/-- The fields of a command's word (30_encoding R77, R83); a field not set is zero (R74). -/
def encodeFields : Instr → Fields
  | .li xd _ => ⟨0x01, xd, 0, 0, 0, 0⟩
  | .rd xs => ⟨0x02, 0, xs, 0, 0, 0⟩
  | .crd xd csr => ⟨0x08, xd, 0, 0, 0, csr⟩
  | .cwr csr xs => ⟨0x09, 0, xs, 0, 0, csr⟩
  | .pseed xa xb => ⟨0x10, 0, xa, xb, 0, 0⟩
  | .pnext32 xd => ⟨0x11, xd, 0, 0, 0, 0⟩
  | .pnext64 xd => ⟨0x12, xd, 0, 0, 0, 0⟩
  | .mixa64 xd xs => ⟨0x20, xd, xs, 0, 0, 0⟩
  | .mixa32 xd xs => ⟨0x21, xd, xs, 0, 0, 0⟩
  | .mixb64 xd xs => ⟨0x22, xd, xs, 0, 0, 0⟩
  | .vmixa vd vs => ⟨0x28, vd.setWidth 4, vs.setWidth 4, 0, 0, 0⟩
  | .vmixb vd vs => ⟨0x29, vd.setWidth 4, vs.setWidth 4, 0, 0, 0⟩
  | .vset vd xs lane => ⟨0x2C, vd.setWidth 4, xs, 0, 0, lane⟩
  | .vget xd vs lane => ⟨0x2D, xd, vs.setWidth 4, 0, 0, lane⟩
  | .vbcast vd xs => ⟨0x2E, vd.setWidth 4, xs, 0, 0, 0⟩
  | .red61 xd xlo xhi => ⟨0x30, xd, xlo, xhi, 0, 0⟩
  | .mulmod61 xd xa xb => ⟨0x31, xd, xa, xb, 0, 0⟩
  | .fmar89 qd xs qa qb => ⟨0x38, qd.setWidth 4, xs, qa.setWidth 4, qb.setWidth 4, 0⟩
  | .red89 xd qs => ⟨0x39, xd, qs.setWidth 4, 0, 0, 0⟩
  | .qset qd xlo xhi => ⟨0x3C, qd.setWidth 4, xlo, xhi, 0, 0⟩
  | .qgetl xd qs => ⟨0x3D, xd, qs.setWidth 4, 0, 0, 0⟩
  | .qgeth xd qs => ⟨0x3E, xd, qs.setWidth 4, 0, 0, 0⟩
  | .peval xd xs => ⟨0x40, xd, xs, 0, 0, 0⟩
  | .cgen => ⟨0x41, 0, 0, 0, 0, 0⟩
  | .cset idx qs => ⟨0x42, 0, qs.setWidth 4, 0, 0, idx⟩
  | .cget qd idx => ⟨0x43, qd.setWidth 4, 0, 0, 0, idx⟩
  | .vpeval vd vs => ⟨0x48, vd.setWidth 4, vs.setWidth 4, 0, 0, 0⟩

/-- The data word an encoded command carries: the value of `LI`, 0 otherwise (30_encoding R83). -/
def encodeData : Instr → U64
  | .li _ value => value
  | .rd _ => 0
  | .crd _ _ => 0
  | .cwr _ _ => 0
  | .pseed _ _ => 0
  | .pnext32 _ => 0
  | .pnext64 _ => 0
  | .mixa64 _ _ => 0
  | .mixa32 _ _ => 0
  | .mixb64 _ _ => 0
  | .vmixa _ _ => 0
  | .vmixb _ _ => 0
  | .vset _ _ _ => 0
  | .vget _ _ _ => 0
  | .vbcast _ _ => 0
  | .red61 _ _ _ => 0
  | .mulmod61 _ _ _ => 0
  | .fmar89 _ _ _ _ => 0
  | .red89 _ _ => 0
  | .qset _ _ _ => 0
  | .qgetl _ _ => 0
  | .qgeth _ _ => 0
  | .peval _ _ => 0
  | .cgen => 0
  | .cset _ _ => 0
  | .cget _ _ => 0
  | .vpeval _ _ => 0

/-- The command word of an instruction (30_encoding R77). -/
def encodeWord (i : Instr) : U32 := wordOf (encodeFields i)

/-- The command of an instruction: its word and its data word (30_encoding R70, R77). -/
def encode (i : Instr) : Command := ⟨encodeWord i, encodeData i⟩

/-- One row of the opcode map (30_encoding R77). -/
structure OpcodeRow where
  /-- the mnemonic -/
  mnemonic : String
  /-- the column "match" -/
  pattern : U32
  /-- the column "mask" -/
  mask : U32
deriving DecidableEq, Repr

/-- A word is a well-formed instance of the row's command exactly when `w & mask = match` (30_encoding R77). -/
def OpcodeRow.matches (r : OpcodeRow) (w : U32) : Bool := w &&& r.mask == r.pattern

/-- The complete opcode map (30_encoding R77). -/
def opcodeRows : List OpcodeRow :=
  [⟨"LI", 0x01000000, 0xFF0FFFFF⟩, ⟨"RD", 0x02000000, 0xFFF0FFFF⟩, ⟨"CRD", 0x08000000, 0xFF0FFF00⟩,
   ⟨"CWR", 0x09000000, 0xFFF0FF00⟩, ⟨"PSEED", 0x10000000, 0xFFF00FFF⟩, ⟨"PNEXT32", 0x11000000, 0xFF0FFFFF⟩,
   ⟨"PNEXT64", 0x12000000, 0xFF0FFFFF⟩, ⟨"MIXA64", 0x20000000, 0xFF00FFFF⟩, ⟨"MIXA32", 0x21000000, 0xFF00FFFF⟩,
   ⟨"MIXB64", 0x22000000, 0xFF00FFFF⟩, ⟨"VMIXA", 0x28000000, 0xFFCCFFFF⟩, ⟨"VMIXB", 0x29000000, 0xFFCCFFFF⟩,
   ⟨"VSET", 0x2C000000, 0xFFC0FF00⟩, ⟨"VGET", 0x2D000000, 0xFF0CFF00⟩, ⟨"VBCAST", 0x2E000000, 0xFFC0FFFF⟩] ++
  [⟨"RED61", 0x30000000, 0xFF000FFF⟩, ⟨"MULMOD61", 0x31000000, 0xFF000FFF⟩, ⟨"FMAR89", 0x38000000, 0xFFC0CCFF⟩,
   ⟨"RED89", 0x39000000, 0xFF0CFFFF⟩, ⟨"QSET", 0x3C000000, 0xFFC00FFF⟩, ⟨"QGETL", 0x3D000000, 0xFF0CFFFF⟩,
   ⟨"QGETH", 0x3E000000, 0xFF0CFFFF⟩, ⟨"PEVAL", 0x40000000, 0xFF00FFFF⟩, ⟨"CGEN", 0x41000000, 0xFFFFFFFF⟩,
   ⟨"CSET", 0x42000000, 0xFFFCFF00⟩, ⟨"CGET", 0x43000000, 0xFFCFFF00⟩, ⟨"VPEVAL", 0x48000000, 0xFFCCFFFF⟩]

/-- The mnemonic of an instruction, its row's name in the opcode map (30_encoding R77). -/
def Instr.mnemonic : Instr → String
  | .li _ _ => "LI"
  | .rd _ => "RD"
  | .crd _ _ => "CRD"
  | .cwr _ _ => "CWR"
  | .pseed _ _ => "PSEED"
  | .pnext32 _ => "PNEXT32"
  | .pnext64 _ => "PNEXT64"
  | .mixa64 _ _ => "MIXA64"
  | .mixa32 _ _ => "MIXA32"
  | .mixb64 _ _ => "MIXB64"
  | .vmixa _ _ => "VMIXA"
  | .vmixb _ _ => "VMIXB"
  | .vset _ _ _ => "VSET"
  | .vget _ _ _ => "VGET"
  | .vbcast _ _ => "VBCAST"
  | .red61 _ _ _ => "RED61"
  | .mulmod61 _ _ _ => "MULMOD61"
  | .fmar89 _ _ _ _ => "FMAR89"
  | .red89 _ _ => "RED89"
  | .qset _ _ _ => "QSET"
  | .qgetl _ _ => "QGETL"
  | .qgeth _ _ => "QGETH"
  | .peval _ _ => "PEVAL"
  | .cgen => "CGEN"
  | .cset _ _ => "CSET"
  | .cget _ _ => "CGET"
  | .vpeval _ _ => "VPEVAL"

/-- The command whose word has the `nbits` low bits of `w` and whose data word is 0, as the host of the package
numbers a row's bits. -/
def commandOfBits (nbits w : Nat) : Command := ⟨BitVec.ofNat 32 (w % 2 ^ nbits), 0⟩

/-- The instruction the decoder reads from a table row's bits, its data word 0; none where it refuses. -/
def decodeTableWord (nbits w : Nat) : Option Instr :=
  match decode (commandOfBits nbits w) with
  | .ok i => some i
  | .error _ => none

end Sys2Proof
end

