-- ==== Sys2Proof/Config.lean ====
section
/-! DEFINITION. Config.lean: the configuration record of one SKH core instance (00_scope R5), when it is well-formed
(R6), and its defaults. The spec leaves no value of any command open (93_implementation_defined section 1), so there is
no free value here. -/

namespace Sys2Proof

/-- The identification string (00_scope R1). -/
def idString : String := "SKH-7"

/-- The four step kinds of Mixer A (42_mixers R121). -/
inductive MixStep where
  /-- complement, shift, add -/
  | cadd (s : Nat)
  /-- shift, complement, add -/
  | addc (s : Nat)
  /-- xor with the logical right shift -/
  | xsr (s : Nat)
  /-- multiply by a constant, wrapping -/
  | mul (c : Nat)
deriving DecidableEq, Repr

/-- The configuration record (00_scope R5). -/
structure Params where
  /-- `LANES`, 64-bit lanes per vector register -/
  lanes : Nat
  /-- `KMAX`, entries of the coefficient memory -/
  kmax : Nat
  /-- `HAS61`, Backend 61 is present -/
  has61 : Bool
  /-- `HAS89`, Backend 89 is present -/
  has89 : Bool
  /-- `MIXA64_STEPS` -/
  mixA64Steps : List MixStep
  /-- `MIXA32_STEPS` -/
  mixA32Steps : List MixStep
  /-- `MIXB_S1` -/
  mixBS1 : Nat
  /-- `MIXB_S2` -/
  mixBS2 : Nat
  /-- `MIXB_S3` -/
  mixBS3 : Nat
  /-- `MIXB_M1` -/
  mixBM1 : U64
  /-- `MIXB_M2` -/
  mixBM2 : U64
deriving DecidableEq, Repr

/-- A shift amount of an `n`-bit step is between 1 and `n - 1` (00_scope R6). -/
def shiftOk (n s : Nat) : Bool := decide (1 ≤ s) && decide (s ≤ n - 1)

/-- Well-formed step of `MIXA64_STEPS`: shift amounts 1..63, multipliers odd and below 2^64 (00_scope R6). -/
def MixStep.wf64 : MixStep → Bool
  | .cadd s => shiftOk 64 s
  | .addc s => shiftOk 64 s
  | .xsr s => shiftOk 64 s
  | .mul c => decide (c % 2 = 1) && decide (c < 2 ^ 64)

/-- Well-formed step of `MIXA32_STEPS`: shift amounts 1..31, multipliers 1 to 2^32 - 1, odd not required (R6). -/
def MixStep.wf32 : MixStep → Bool
  | .cadd s => shiftOk 32 s
  | .addc s => shiftOk 32 s
  | .xsr s => shiftOk 32 s
  | .mul c => decide (1 ≤ c) && decide (c < 2 ^ 32)

/-- Well-formedness of a parameter set (00_scope R5 bounds, R6). -/
def Params.wf (p : Params) : Bool :=
  decide (1 ≤ p.lanes) && decide (p.lanes ≤ 256) && decide (1 ≤ p.kmax) && decide (p.kmax ≤ 255) &&
  (p.has61 || p.has89) &&
  !p.mixA64Steps.isEmpty && p.mixA64Steps.all MixStep.wf64 &&
  !p.mixA32Steps.isEmpty && p.mixA32Steps.all MixStep.wf32 &&
  shiftOk 64 p.mixBS1 && shiftOk 64 p.mixBS2 && shiftOk 64 p.mixBS3 &&
  decide (p.mixBM1.toNat % 2 = 1) && decide (p.mixBM2.toNat % 2 = 1)

/-- The default instance (00_scope R5). The mixer lists and constants are the spec's defaults, which it marks as
general knowledge (93_implementation_defined G1, G2, G3): PRESUMED, log 2. -/
def Params.default : Params where
  lanes := 4
  kmax := 16
  has61 := true
  has89 := true
  mixA64Steps := [.cadd 21, .xsr 24, .mul 265, .xsr 14, .mul 21, .xsr 28, .mul 2147483649]
  mixA32Steps := [.addc 15, .xsr 10, .mul 9, .xsr 6, .addc 11, .xsr 16]
  mixBS1 := 33
  mixBS2 := 33
  mixBS3 := 33
  mixBM1 := 0xFF51AFD7ED558CCD
  mixBM2 := 0xC4CEB9FE1A85EC53

end Sys2Proof
end

