-- ==== Sys2Proof/Machine/State.lean ====
section
/-! DEFINITION. Machine/State.lean: everything the spec gives the SKH core to hold (10_state R22 to R31), the step's input
and output (R20, 70_reset R290), and the reset state (10_state R33, 70_reset R280). -/

namespace Sys2Proof.Machine

/-- The two modular backends (00_scope R7, 10_state R28). -/
inductive Backend where
  /-- Backend 61, `CFG.BK = 0` -/
  | b61
  /-- Backend 89, `CFG.BK = 1` -/
  | b89
deriving DecidableEq, Repr

/-- A response: `status` and `data` (30_encoding R71). -/
structure Response where
  /-- 0 executed, 1..6 a cause code, 0xF refused because halted -/
  status : BitVec 4
  /-- the value read by `RD`, else 0 -/
  data : U64
deriving DecidableEq, Repr

/-- What the host does to the block (10_state R20): it presents a command, or `rst` is asserted (70_reset R280). -/
inductive HostInput where
  /-- a command on the command port (30_encoding R70) -/
  | command (c : Command)
  /-- `rst` is asserted; `inFlight` is the command accepted but not yet executed, if there is one, which is dropped
  (70_reset R280) -/
  | reset (inFlight : Option Command)
deriving DecidableEq, Repr

/-- The coefficient memory (20_memory R50): entries of 96 bits by entry index, an index that is not listed holding the
reset value `(0, 0, 0)`. The entry is the unit of addressing; there are no byte addresses (R50, R53). DESIGN CHOICE, log 7. -/
abbrev Memory := List (Nat × Limbs)

/-- The canonical form of a memory of `kmax` entries: indices strictly rising and below `kmax`, no listed entry equal to
what an unlisted index reads as. Equal memories are equal lists. -/
abbrev Memory.wf (kmax : Nat) (m : Memory) : Prop :=
  (m.map Prod.fst).Pairwise (· < ·) ∧ ∀ c ∈ m, c.2 ≠ Limbs.zero ∧ c.1 < kmax

/-- The state of the SKH core, with the configuration it was built with and the step's input and output. -/
structure State where
  /-- the configuration record (00_scope R5); nothing changes it (log 1) -/
  params : Params
  /-- scalar registers (10_state R22) -/
  x : Vector U64 16
  /-- limb registers (10_state R23) -/
  q : Vector Limbs 4
  /-- vector registers, each a list of `LANES` lanes, lane 0 first (10_state R24) -/
  v : Vector (List U64) 4
  /-- `STATE` of the generator (10_state R25) -/
  prngState : U64
  /-- `INC` of the generator (10_state R25) -/
  prngInc : U64
  /-- `CFG.K` (10_state R28) -/
  cfgK : BitVec 8
  /-- `CFG.BK` (10_state R28) -/
  cfgBk : Backend
  /-- the coefficient memory `C` (20_memory R50) -/
  coef : Memory
  /-- `FAULT` (10_state R30) -/
  fault : Bool
  /-- `FCAUSE` (10_state R30) -/
  fcause : BitVec 4
  /-- `FCMD` (10_state R30) -/
  fcmd : U32
  /-- the model's own: what the host does next, oldest first, whichever host it comes from (70_reset R286; log 3, 16) -/
  inputs : List HostInput
  /-- the model's own: the response of the last command since reset, none when `rsp_valid = 0` (log 6) -/
  rsp : Option Response
  /-- the model's own: every response produced, in command order (70_reset R290; log 6) -/
  responses : List Response
deriving DecidableEq, Repr

/-- The reasons the MODEL stops with a fault. There are none: every fault of the spec is a next state, with the fault
latch set and a response given (60_exceptions R253), and the step is a total function (10_state R20). Safe: log 12. -/
inductive Fault where
deriving DecidableEq, Repr

/-- The reasons the model refuses a command. -/
inductive Refusal where
  /-- raised by an arm of `exec` whose instruction has no meaning yet; no arm is left so. Safe: nothing is said of such an
  instruction. -/
  | notModelled (mnemonic : String)
deriving DecidableEq, Repr

/-- The backend that `CFG.BK` names after reset: Backend 61 when it is present, else Backend 89 (10_state R28, R33). -/
def resetBackend (p : Params) : Backend := if p.has61 then .b61 else .b89

/-- The reset state of the instance `p`, a function of the configuration alone (10_state R33, 70_reset R280, R281). -/
def State.resetOf (p : Params) : State where
  params := p
  x := Vector.replicate 16 0
  q := Vector.replicate 4 Limbs.zero
  v := Vector.replicate 4 (List.replicate p.lanes 0)
  prngState := 0
  prngInc := 1
  cfgK := 0
  cfgBk := resetBackend p
  coef := []
  fault := false
  fcause := 0
  fcmd := 0
  inputs := []
  rsp := none
  responses := []

/-- An instance is built only of a well-formed parameter set; another is refused, not built (00_scope R6; DESIGN CHOICE,
log 14). -/
def State.build (p : Params) : Option State := if p.wf then some (State.resetOf p) else none

/-- The machine right after reset, with the default parameters (00_scope R5, 10_state R33). -/
def State.reset : State := State.resetOf Params.default

end Sys2Proof.Machine
end

