-- ==== Sys2Proof/Machine/Flags.lean ====
section
/-! DEFINITION. Machine/Flags.lean: the fault latch, the only flags of the block (10_state R30), with the cause codes
(60_exceptions R251). No arithmetic command writes a flag. -/

namespace Sys2Proof.Machine

/-- The six causes (60_exceptions R251). -/
inductive Cause where
  /-- 0x1: no row of the opcode map, or a command of an absent backend -/
  | illegalCommand
  /-- 0x2: a well-formed `VPEVAL` -/
  | unsupported
  /-- 0x3: a lane index or a coefficient index out of range -/
  | indexRange
  /-- 0x4: a control-register number above 0x03, or a write to `HWCFG` -/
  | csrAccess
  /-- 0x5: an illegal value for `CFG`, or `PEVAL` or `CGEN` while `CFG.K = 0` -/
  | config
  /-- 0x6: limb 2 of an `Fmar89` result would not fit 32 bits -/
  | limbOverflow
deriving DecidableEq, Repr

/-- The code of a cause: the value of `FCAUSE`, of `fault_cause` and of the faulting response's status
(60_exceptions R251). -/
def causeCode : Cause → BitVec 4
  | .illegalCommand => 1
  | .unsupported => 2
  | .indexRange => 3
  | .csrAccess => 4
  | .config => 5
  | .limbOverflow => 6

/-- Status of a command that executed (30_encoding R71). -/
def statusOk : BitVec 4 := 0

/-- Status of a command refused because the block is halted (30_encoding R71, 60_exceptions R255). -/
def statusHalted : BitVec 4 := 0xF

/-- The latch set by a fault of cause `c` of the command with word `w` (60_exceptions R253). -/
def State.setLatch (s : State) (c : Cause) (w : U32) : State :=
  { s with fault := true, fcause := causeCode c, fcmd := w }

end Sys2Proof.Machine
end

