-- ==== Sys2Proof/Machine/Operands.lean ====
section
/-! DEFINITION. Machine/Operands.lean: every view of an operand the rules use (00_scope R9, R10, R11, 20_memory R54, R56)
and the reads and writes of the register files (R12). -/

namespace Sys2Proof.Machine

/-- `lo32(v) = v[31:0]` (00_scope R11). -/
def lo32 (v : U64) : U32 := v.extractLsb' 0 32

/-- `hi32(v) = v[63:32]` (00_scope R11). -/
def hi32 (v : U64) : U32 := v.extractLsb' 32 32

/-- `hi : lo` of two 32-bit words (00_scope R8). -/
def join32 (hi lo : U32) : U64 := hi ++ lo

/-- `hi : lo` of two 64-bit words (00_scope R8). -/
def join64 (hi lo : U64) : U128 := hi ++ lo

/-- `zext_64` of a 32-bit word (00_scope R11). -/
def zext64 (v : U32) : U64 := v.setWidth 64

/-- `zext_128` of a 64-bit word (00_scope R11). -/
def zext128 (v : U64) : U128 := v.setWidth 128

/-- `ror32(v, r)`, rotation right by `r < 32` (00_scope R10). -/
def ror32 (v : U32) (r : Nat) : U32 := (v >>> r) ||| (v <<< ((32 - r) % 32))

/-- `val64(e) = e.l0 + e.l1 * 2^32`, limb 2 not read (00_scope R11, 20_memory R54). -/
def val64 (e : Limbs) : U64 := join32 e.l1 e.l0

/-- The triple of a Backend 61 scalar: `(lo32 c, hi32 c, 0)` (46_poly R207). -/
def limbsOfScalar (c : U64) : Limbs := ⟨lo32 c, hi32 c, 0⟩

/-- The triple `QSET` builds: `hi32` of the second word is not read (20_memory R56, 47 R226). -/
def limbsOfPair (lo hi : U64) : Limbs := ⟨lo32 lo, hi32 lo, lo32 hi⟩

/-- `x[r]` (00_scope R12). -/
def State.readX (s : State) (r : XReg) : U64 := s.x[r.toNat]'r.isLt

/-- `x[r] <- w` (00_scope R12). -/
def State.writeX (s : State) (r : XReg) (w : U64) : State := { s with x := s.x.set r.toNat w r.isLt }

/-- `q[r]` (00_scope R12). -/
def State.readQ (s : State) (r : QReg) : Limbs := s.q[r.toNat]'r.isLt

/-- `q[r] <- t`, all three limbs (00_scope R12). -/
def State.writeQ (s : State) (r : QReg) (t : Limbs) : State := { s with q := s.q.set r.toNat t r.isLt }

/-- The lanes of `v[r]`, lane 0 first (10_state R24). -/
def State.readV (s : State) (r : VReg) : List U64 := s.v[r.toNat]'r.isLt

/-- Write of all lanes of `v[r]`. -/
def State.writeV (s : State) (r : VReg) (l : List U64) : State := { s with v := s.v.set r.toNat l r.isLt }

/-- `v[r][j]`, for `j < LANES` (00_scope R12). In a state whose register has fewer lanes, which no run reaches, a lane
that is not there reads 0: DESIGN CHOICE, log 11. -/
def State.readLane (s : State) (r : VReg) (j : Nat) : U64 := (s.readV r).getD j 0

/-- `v[r][j] <- w`, the other lanes keeping their values (00_scope R12, 43 R144). -/
def State.writeLane (s : State) (r : VReg) (j : Nat) (w : U64) : State := s.writeV r ((s.readV r).set j w)

end Sys2Proof.Machine
end

