-- ==== Sys2Proof/Machine/Ops.lean ====
section
/-! DEFINITION. Machine/Ops.lean: the named operations every command is written in: the coefficient memory (20_memory R50),
the response (30_encoding R71), taking a fault (60_exceptions R253), the halted refusal (R255), and reset, the one way out
of a fault (R256, 70_reset R280). -/

namespace Sys2Proof.Machine

/-- `MemRead(i, 96)`: one whole entry (00_scope R12, 20_memory R57). -/
def Memory.read : Memory → Nat → Limbs
  | [], _ => Limbs.zero
  | (j, t) :: rest, i => if j = i then t else Memory.read rest i

/-- `MemWrite(i, 96, t)`: one whole entry (00_scope R12, 20_memory R57), keeping the canonical form. -/
def Memory.write : Memory → Nat → Limbs → Memory
  | [], i, t => if t = Limbs.zero then [] else [(i, t)]
  | (j, u) :: rest, i, t =>
    if i < j then (if t = Limbs.zero then (j, u) :: rest else (i, t) :: (j, u) :: rest)
    else if i = j then (if t = Limbs.zero then rest else (i, t) :: rest)
    else (j, u) :: Memory.write rest i t

/-- Every entry `(0, 0, 0)` (47 R233). -/
def Memory.cleared : Memory := []

/-- `C[i]` on the right of an arrow (00_scope R12). -/
def State.readC (s : State) (i : Nat) : Limbs := s.coef.read i

/-- `C[i] <- t` (00_scope R12). -/
def State.writeC (s : State) (i : Nat) (t : Limbs) : State := { s with coef := s.coef.write i t }

/-- Every entry of `C` set to `(0, 0, 0)` (10_state R28). -/
def State.clearC (s : State) : State := { s with coef := Memory.cleared }

/-- The one response of a command (30_encoding R71): it stands at the response port and joins the responses produced. -/
def State.respond (s : State) (status : BitVec 4) (data : U64) : State :=
  { s with rsp := some ⟨status, data⟩, responses := s.responses ++ [⟨status, data⟩] }

/-- A command that executed and delivers `data` to the host (47 R222). -/
def finishWith (s : State) (data : U64) : Host.Outcome State Fault Refusal := .next (s.respond statusOk data)

/-- A command that executed; its response carries no data (30_encoding R71). -/
def finish (s : State) : Host.Outcome State Fault Refusal := finishWith s 0

/-- TAKING A FAULT (60_exceptions R253): the latch takes the cause and the command word, the response carries the cause,
and nothing else changes. There is no handler to enter. -/
def State.raise (s : State) (c : Cause) (w : U32) : State := (s.setLatch c w).respond (causeCode c) 0

/-- The command `i` faults with cause `c`; `FCMD` takes its word (60_exceptions R253; DEDUCED, log 8). -/
def trap (c : Cause) (i : Instr) (s : State) : Host.Outcome State Fault Refusal := .next (s.raise c (encodeWord i))

/-- A halted block answers every command with status 0xF and changes nothing (60_exceptions R255). -/
def State.refuseHalted (s : State) : State := s.respond statusHalted 0

/-- Reset (70_reset R280): every piece of state takes its reset value, the only way out of the halted state
(60_exceptions R256). What the host does next and the responses it was given stand outside the block (log 5). -/
def State.applyReset (s : State) : State :=
  { State.resetOf s.params with inputs := s.inputs, responses := s.responses }

/-- The output ports that show state (70_reset R283): the fault latch is driven continuously (10_state R30). -/
structure OutputPorts where
  /-- `rsp_valid` -/
  rspValid : Bool
  /-- `fault` -/
  fault : Bool
  /-- `fault_cause` -/
  faultCause : BitVec 4
  /-- `fault_cmd` -/
  faultCmd : U32
deriving DecidableEq, Repr

/-- The output ports of a state (10_state R30, 70_reset R281, R283). -/
def State.outputs (s : State) : OutputPorts := ⟨s.rsp.isSome, s.fault, s.fcause, s.fcmd⟩

end Sys2Proof.Machine
end

