-- ==== Sys2Proof/Machine/Mod61.lean ====
section
/-! DEFINITION. Machine/Mod61.lean: Backend 61 (44_mod61): `Reduce61`, `MulMod61` and the commands `RED61`, `MULMOD61`. -/

namespace Sys2Proof.Machine

/-- One fold, `(x >> 61) + (x & P61)`, exact (44_mod61 R161). -/
def fold61 (x : Nat) : Nat := x / 2 ^ 61 + x % 2 ^ 61

/-- The loop of `Reduce61`, `while x >= 2 * P61` (44_mod61 R161; the strict bound of 90_conflicts C1), for at most
`folds` rounds. -/
def foldLoop61 : Nat → Nat → Nat
  | 0, x => x
  | folds + 1, x => if 2 * p61 ≤ x then foldLoop61 folds (fold61 x) else x

/-- The conditional subtraction after the loop (44_mod61 R161). -/
def subtractOnce61 (x : Nat) : Nat := if p61 ≤ x then x - p61 else x

/-- `Reduce61(x : u128) : u64` (44_mod61 R161); for a 128-bit input the loop runs at most twice. -/
def reduce61 (x : U128) : U64 := BitVec.ofNat 64 (subtractOnce61 (foldLoop61 2 x.toNat))

/-- `MulMod61(a, b) = Reduce61(a * b)`, the product exact in 128 bits (44_mod61 R162). -/
def mulMod61 (a b : U64) : U64 := reduce61 (zext128 a * zext128 b)

/-- `RED61 xd, xlo, xhi` (44_mod61 R163); without Backend 61, `IllegalCommand` (30_encoding R81). -/
def execRed61 (xd xlo xhi : XReg) (s : State) : Host.Outcome State Fault Refusal :=
  if s.params.has61 then finish (s.writeX xd (reduce61 (join64 (s.readX xhi) (s.readX xlo))))
  else trap .illegalCommand (.red61 xd xlo xhi) s

/-- `MULMOD61 xd, xa, xb` (44_mod61 R164); without Backend 61, `IllegalCommand` (30_encoding R81). -/
def execMulmod61 (xd xa xb : XReg) (s : State) : Host.Outcome State Fault Refusal :=
  if s.params.has61 then finish (s.writeX xd (mulMod61 (s.readX xa) (s.readX xb)))
  else trap .illegalCommand (.mulmod61 xd xa xb) s

end Sys2Proof.Machine
end

