-- ==== Sys2Proof/Machine/Mod89.lean ====
section
/-! DEFINITION. Machine/Mod89.lean: Backend 89 (45_mod89): `Fmar89`, `ReduceToScalar89` and the commands `FMAR89`, `RED89`.
The named intermediates of R182 are natural numbers: R182 says that every sum shown is exact and below 2^64 (log 10). -/

namespace Sys2Proof.Machine

/-- `M25 = 2^25 - 1` (45_mod89). -/
def m25 : Nat := 2 ^ 25 - 1

/-- `M32 = 2^32 - 1` (45_mod89). -/
def m32 : Nat := 2 ^ 32 - 1

/-- The intermediates of `Fmar89` (45_mod89 R182). -/
structure FmarParts where
  /-- weight 2^0 -/
  d0 : Nat
  /-- weight 2^0, the part of `c21` at weight 2^96 brought down to 2^7 -/
  d1 : Nat
  /-- weight 2^32 -/
  d2 : Nat
  /-- weight 2^64 -/
  d3 : Nat
  /-- sum of limb 0 -/
  s0 : Nat
  /-- sum of limb 1 -/
  s1 : Nat
  /-- sum of limb 2 -/
  s2 : Nat
deriving DecidableEq, Repr

/-- The six partial products, their parts by weight, and the carry propagation (45_mod89 R182). `a >> s` is
`a / 2^s`, `a & (2^s - 1)` is `a % 2^s` (00_scope R9). -/
def fmarParts (x : U64) (a b : Limbs) : FmarParts :=
  let x0 := (lo32 x).toNat
  let x1 := (hi32 x).toNat
  let c00 := a.l0.toNat * x0
  let c01 := a.l0.toNat * x1
  let c10 := a.l1.toNat * x0
  let c11 := a.l1.toNat * x1
  let c20 := a.l2.toNat * x0
  let c21 := a.l2.toNat * x1
  let d0 := c20 / 2 ^ 25 + c11 / 2 ^ 25 + c10 / 2 ^ 57 + c01 / 2 ^ 57
  let d1 := 2 ^ 7 * c21 % 2 ^ 64
  let d2 := c10 % 2 ^ 57 + c01 % 2 ^ 57
  let d3 := c20 % 2 ^ 25 + c11 % 2 ^ 25 + c21 / 2 ^ 57
  let s0 := b.l0.toNat + c00 % 2 ^ 32 + d0 % 2 ^ 32 + d1 % 2 ^ 32
  let s1 := b.l1.toNat + c00 / 2 ^ 32 + d0 / 2 ^ 32 + d1 / 2 ^ 32 + d2 % 2 ^ 32 + s0 / 2 ^ 32
  let s2 := b.l2.toNat + d2 / 2 ^ 32 + d3 + s1 / 2 ^ 32
  ⟨d0, d1, d2, d3, s0, s1, s2⟩

/-- `Fmar89(x, a, b)`: the result triple, or none where it raises `LimbOverflow` (45_mod89 R182). -/
def fmar89 (x : U64) (a b : Limbs) : Option Limbs :=
  let p := fmarParts x a b
  if 2 ^ 32 ≤ p.s2 then none
  else some ⟨BitVec.ofNat 32 p.s0, BitVec.ofNat 32 p.s1, BitVec.ofNat 32 p.s2⟩

/-- `ReduceToScalar89(r)` (45_mod89 R185), with the boundary branch spelled out. -/
def reduceToScalar89 (r : Limbs) : U64 :=
  let t0 := r.l0.toNat + r.l2.toNat / 2 ^ 25
  let t2 := r.l2.toNat % 2 ^ 25
  if t2 = m25 ∧ r.l1.toNat = m32 ∧ m32 ≤ t0 then BitVec.ofNat 64 (t0 - m32)
  else BitVec.ofNat 64 (t0 + 2 ^ 32 * r.l1.toNat)

/-- `FMAR89 qd, xs, qa, qb` (45_mod89 R186); without Backend 89, `IllegalCommand` (30_encoding R81). -/
def execFmar89 (qd : QReg) (xs : XReg) (qa qb : QReg) (s : State) : Host.Outcome State Fault Refusal :=
  if s.params.has89 then
    match fmar89 (s.readX xs) (s.readQ qa) (s.readQ qb) with
    | some r => finish (s.writeQ qd r)
    | none => trap .limbOverflow (.fmar89 qd xs qa qb) s
  else trap .illegalCommand (.fmar89 qd xs qa qb) s

/-- `RED89 xd, qs` (45_mod89 R187); without Backend 89, `IllegalCommand` (30_encoding R81). -/
def execRed89 (xd : XReg) (qs : QReg) (s : State) : Host.Outcome State Fault Refusal :=
  if s.params.has89 then finish (s.writeX xd (reduceToScalar89 (s.readQ qs)))
  else trap .illegalCommand (.red89 xd qs) s

end Sys2Proof.Machine
end

