-- ==== Sys2Proof/Machine/Prng.lean ====
section
/-! DEFINITION. Machine/Prng.lean: the pseudo-random generator (41_prng): the draws `Next32` and `Next64` and the commands
`PSEED`, `PNEXT32`, `PNEXT64`. -/

namespace Sys2Proof.Machine

/-- `PCG_MULT` (00_scope R4). -/
def pcgMult : U64 := 6364136223846793005

/-- The advance of the state, wrapping modulo 2^64 (41_prng R101). The literal stands to the left of the product, which
commutes: Lean's kernel would unfold a product by a large literal on the right one unit at a time. -/
def prngAdvance (old inc : U64) : U64 := pcgMult * old + inc

/-- The output of a draw, a function of the pre-advance state: the low 32 bits of the 37-bit xorshift, rotated right by
the top 5 bits (41_prng R101; decision D10). -/
def prngOutput (old : U64) : U32 :=
  ror32 ((((old >>> 18) ^^^ old) >>> 27).extractLsb' 0 32) (old.extractLsb' 59 5).toNat

/-- `Next32()` (41_prng R101): the output and the state after it; `INC` is not changed. -/
def next32 (s : State) : U32 × State :=
  (prngOutput s.prngState, { s with prngState := prngAdvance s.prngState s.prngInc })

/-- `Next64()` (41_prng R102): two draws, the first one the high half. -/
def next64 (s : State) : U64 × State :=
  let first := next32 s
  let second := next32 first.2
  (join32 first.1 second.1, second.2)

/-- Every write of `INC` ors in 1 (10_state R25, R29). -/
def State.writeInc (s : State) (w : U64) : State := { s with prngInc := w ||| 1 }

/-- A write of `STATE` (10_state R29). -/
def State.writePrngState (s : State) (w : U64) : State := { s with prngState := w }

/-- `PSEED xa, xb` (41_prng R103): both registers are read before anything is written; no warm-up draw. -/
def execPseed (xa xb : XReg) (s : State) : Host.Outcome State Fault Refusal :=
  finish ((s.writePrngState (s.readX xa)).writeInc (s.readX xb))

/-- `PNEXT32 xd` (41_prng R104). -/
def execPnext32 (xd : XReg) (s : State) : Host.Outcome State Fault Refusal :=
  let drawn := next32 s
  finish (drawn.2.writeX xd (zext64 drawn.1))

/-- `PNEXT64 xd` (41_prng R105). -/
def execPnext64 (xd : XReg) (s : State) : Host.Outcome State Fault Refusal :=
  let drawn := next64 s
  finish (drawn.2.writeX xd drawn.1)

end Sys2Proof.Machine
end

