-- ==== Sys2Proof/Machine/MoveSystem.lean ====
section
/-! DEFINITION. Machine/MoveSystem.lean: host moves, limb-register moves and control-register access (47_move_system):
`LI`, `RD`, `QSET`, `QGETL`, `QGETH`, `CRD`, `CWR`. -/

namespace Sys2Proof.Machine

/-- `HWCFG` (10_state R27): `LANES mod 256`, `KMAX`, `HAS61`, `HAS89`; bits 63:18 are 0. -/
def hwcfgWord (p : Params) : U64 :=
  (0 : BitVec 46) ++ BitVec.ofBool p.has89 ++ BitVec.ofBool p.has61 ++ BitVec.ofNat 8 p.kmax ++ BitVec.ofNat 8 p.lanes

/-- `CFG.BK` as a bit (10_state R28). -/
def backendBit : Backend → Bool
  | .b61 => false
  | .b89 => true

/-- `CFG` as a word: `K` in bits 7:0, `BK` in bit 8, bits 63:9 zero (10_state R28, 47 R232). -/
def State.cfgWord (s : State) : U64 := (0 : BitVec 55) ++ BitVec.ofBool (backendBit s.cfgBk) ++ s.cfgK

/-- The `K` field of a word written to `CFG` (10_state R28). -/
def cfgKOf (w : U64) : BitVec 8 := w.extractLsb' 0 8

/-- The `BK` field of a word written to `CFG` (10_state R28). -/
def cfgBkOf (w : U64) : Backend := if w.getLsbD 8 then .b89 else .b61

/-- The backend is present in the instance (10_state R28). -/
def backendHas (p : Params) : Backend → Bool
  | .b61 => p.has61
  | .b89 => p.has89

/-- A word that is legal in every field of `CFG`: reserved bits 0, `K <= KMAX`, the backend present (10_state R28). -/
def cfgLegal (p : Params) (w : U64) : Bool :=
  (w.extractLsb' 9 55 == 0) && decide ((cfgKOf w).toNat ≤ p.kmax) && backendHas p (cfgBkOf w)

/-- The control register with number `n`, none above 0x03 (10_state R26, 47 R232). -/
def State.readCsr (s : State) (n : Imm) : Option U64 :=
  match n.toNat with
  | 0x00 => some (hwcfgWord s.params)
  | 0x01 => some s.cfgWord
  | 0x02 => some s.prngState
  | 0x03 => some s.prngInc
  | _ => none

/-- A legal write of `CFG`: the construction of an instance, which zeroes all of `C` (10_state R28, 47 R233). -/
def State.writeCfg (s : State) (w : U64) : State :=
  { s with cfgK := cfgKOf w, cfgBk := cfgBkOf w }.clearC

/-- `LI xd, value64` (47 R221). -/
def execLi (xd : XReg) (value : U64) (s : State) : Host.Outcome State Fault Refusal := finish (s.writeX xd value)

/-- `RD xs` (47 R222): the only command whose response carries data. -/
def execRd (xs : XReg) (s : State) : Host.Outcome State Fault Refusal := finishWith s (s.readX xs)

/-- `QSET qd, xlo, xhi` (47 R226). -/
def execQset (qd : QReg) (xlo xhi : XReg) (s : State) : Host.Outcome State Fault Refusal :=
  finish (s.writeQ qd (limbsOfPair (s.readX xlo) (s.readX xhi)))

/-- `QGETL xd, qs` (47 R227): limb 1 in bits 63:32, limb 0 in bits 31:0. -/
def execQgetl (xd : XReg) (qs : QReg) (s : State) : Host.Outcome State Fault Refusal :=
  finish (s.writeX xd (val64 (s.readQ qs)))

/-- `QGETH xd, qs` (47 R228). -/
def execQgeth (xd : XReg) (qs : QReg) (s : State) : Host.Outcome State Fault Refusal :=
  finish (s.writeX xd (zext64 (s.readQ qs).l2))

/-- `CRD xd, csr` (47 R232). -/
def execCrd (xd : XReg) (csr : Imm) (s : State) : Host.Outcome State Fault Refusal :=
  match s.readCsr csr with
  | some w => finish (s.writeX xd w)
  | none => trap .csrAccess (.crd xd csr) s

/-- `CWR csr, xs` (47 R233): `HWCFG` is read-only; an illegal value for `CFG` changes nothing. -/
def execCwr (csr : Imm) (xs : XReg) (s : State) : Host.Outcome State Fault Refusal :=
  match csr.toNat with
  | 0x01 => if cfgLegal s.params (s.readX xs) then finish (s.writeCfg (s.readX xs)) else trap .config (.cwr csr xs) s
  | 0x02 => finish (s.writePrngState (s.readX xs))
  | 0x03 => finish (s.writeInc (s.readX xs))
  | _ => trap .csrAccess (.cwr csr xs) s

end Sys2Proof.Machine
end

