-- ==== Sys2Proof/Machine/Poly.lean ====
section
/-! DEFINITION. Machine/Poly.lean: the polynomial evaluator (46_poly): `Poly61`, `Poly89` and the commands `PEVAL`, `CGEN`,
`CSET`, `CGET`, `VPEVAL`. -/

namespace Sys2Proof.Machine

/-- The coefficient set: entries `C[0] .. C[K-1]`, `C[i]` the coefficient of `key^i` (46_poly R200, R201). -/
def State.coefSet (s : State) : List Limbs := (List.range s.cfgK.toNat).map s.readC

/-- The loop of `Poly61` over `C[1] .. C[K-1]`: running sum `acc`, running power `xp` (46_poly R203). -/
def poly61Loop (xm : U64) : List Limbs → U64 → U64 → U64
  | [], acc, _ => acc
  | c :: rest, acc, xp =>
    poly61Loop xm rest (reduce61 (zext128 acc + zext128 (mulMod61 (val64 c) xp))) (mulMod61 xp xm)

/-- `Poly61(K, C, key)` on the coefficient set, for `K >= 1` (46_poly R203). -/
def poly61 (coefs : List Limbs) (key : U64) : U64 :=
  match coefs with
  | [] => 0
  | c0 :: rest =>
    let xm := reduce61 (zext128 key)
    poly61Loop xm rest (reduce61 (zext128 (val64 c0))) xm

/-- The Horner steps of `Poly89`, one `Fmar89` per coefficient; none where a step raises `LimbOverflow` (46_poly R204). -/
def horner89 (key : U64) : Limbs → List Limbs → Option Limbs
  | r, [] => some r
  | r, c :: rest =>
    match fmar89 key r c with
    | some r' => horner89 key r' rest
    | none => none

/-- `Poly89(K, C, key)` on the coefficient set, for `K >= 1`, from the leading coefficient down (46_poly R204). -/
def poly89 (coefs : List Limbs) (key : U64) : Option U64 :=
  match coefs.reverse with
  | [] => some 0
  | top :: rest => (horner89 key top rest).map reduceToScalar89

/-- One coefficient drawn from the generator for the backend of `CFG.BK` (46_poly R207): one 64-bit draw reduced, or
three 32-bit draws, the third masked to 25 bits. -/
def drawCoef (s : State) : Limbs × State :=
  match s.cfgBk with
  | .b61 =>
    let d := next64 s
    (limbsOfScalar (reduce61 (zext128 d.1)), d.2)
  | .b89 =>
    let d0 := next32 s
    let d1 := next32 d0.2
    let d2 := next32 d1.2
    (⟨d0.1, d1.1, d2.1 &&& 0x01FFFFFF⟩, d2.2)

/-- The loop of `CGEN`: `n` coefficients into the entries from `i` up, ascending (46_poly R207). -/
def genCoefs : Nat → Nat → State → State
  | 0, _, s => s
  | n + 1, i, s =>
    let d := drawCoef s
    genCoefs n (i + 1) (d.2.writeC i d.1)

/-- A coefficient index is in range (20_memory R52). -/
def coefInRange (s : State) (idx : Imm) : Bool := decide (idx.toNat < s.params.kmax)

/-- The value `PEVAL` computes for a key under the backend of `CFG.BK`; none where `LimbOverflow` is raised
(46_poly R206). -/
def polyValue (s : State) (key : U64) : Option U64 :=
  match s.cfgBk with
  | .b61 => some (poly61 s.coefSet key)
  | .b89 => poly89 s.coefSet key

/-- `PEVAL xd, xs` (46_poly R206). -/
def execPeval (xd xs : XReg) (s : State) : Host.Outcome State Fault Refusal :=
  if s.cfgK = 0 then trap .config (.peval xd xs) s
  else
    match polyValue s (s.readX xs) with
    | some h => finish (s.writeX xd h)
    | none => trap .limbOverflow (.peval xd xs) s

/-- `CGEN` (46_poly R207). -/
def execCgen (s : State) : Host.Outcome State Fault Refusal :=
  if s.cfgK = 0 then trap .config .cgen s else finish (genCoefs s.cfgK.toNat 0 s)

/-- `CSET idx, qs` (46_poly R208). -/
def execCset (idx : Imm) (qs : QReg) (s : State) : Host.Outcome State Fault Refusal :=
  if coefInRange s idx then finish (s.writeC idx.toNat (s.readQ qs)) else trap .indexRange (.cset idx qs) s

/-- `CGET qd, idx` (46_poly R209). -/
def execCget (qd : QReg) (idx : Imm) (s : State) : Host.Outcome State Fault Refusal :=
  if coefInRange s idx then finish (s.writeQ qd (s.readC idx.toNat)) else trap .indexRange (.cget qd idx) s

/-- `VPEVAL vd, vs` always raises `Unsupported` (46_poly R210). -/
def execVpeval (vd vs : VReg) (s : State) : Host.Outcome State Fault Refusal := trap .unsupported (.vpeval vd vs) s

end Sys2Proof.Machine
end

