-- ==== Sys2Proof/Machine/Mixers.lean ====
section
/-! DEFINITION. Machine/Mixers.lean: the scalar avalanche mixers (42_mixers): `ApplySteps`, `MixA64`, `MixA32`, `MixB64` and
the commands `MIXA64`, `MIXA32`, `MIXB64`. -/

namespace Sys2Proof.Machine

/-- One step of Mixer A on an `n`-bit word (42_mixers R121). -/
def applyStep (n : Nat) (step : MixStep) (x : BitVec n) : BitVec n :=
  match step with
  | .cadd s => ~~~x + (x <<< s)
  | .addc s => x + ~~~(x <<< s)
  | .xsr s => x ^^^ (x >>> s)
  | .mul c => x * BitVec.ofNat n c

/-- `ApplySteps_N(list, x)`: the steps in order, first element first (42_mixers R121). -/
def applySteps (n : Nat) : List MixStep → BitVec n → BitVec n
  | [], x => x
  | step :: rest, x => applySteps n rest (applyStep n step x)

/-- `MixA64` (42_mixers R122). -/
def mixA64 (p : Params) (x : U64) : U64 := applySteps 64 p.mixA64Steps x

/-- `MixA32` (42_mixers R123). -/
def mixA32 (p : Params) (x : U32) : U32 := applySteps 32 p.mixA32Steps x

/-- `x <- x ^ (x >> s)`, one round of Mixer B (42_mixers R127). -/
def xorShift (x : U64) (s : Nat) : U64 := x ^^^ (x >>> s)

/-- `MixB64` (42_mixers R127); the products are the wrapping 64-bit products. -/
def mixB64 (p : Params) (x : U64) : U64 :=
  xorShift (xorShift (xorShift x p.mixBS1 * p.mixBM1) p.mixBS2 * p.mixBM2) p.mixBS3

/-- `MIXA64 xd, xs` (42_mixers R125). -/
def execMixa64 (xd xs : XReg) (s : State) : Host.Outcome State Fault Refusal :=
  finish (s.writeX xd (mixA64 s.params (s.readX xs)))

/-- `MIXA32 xd, xs` (42_mixers R126): bits 63:32 of the source are not read, bits 63:32 of the result are 0. -/
def execMixa32 (xd xs : XReg) (s : State) : Host.Outcome State Fault Refusal :=
  finish (s.writeX xd (zext64 (mixA32 s.params (lo32 (s.readX xs)))))

/-- `MIXB64 xd, xs` (42_mixers R127). -/
def execMixb64 (xd xs : XReg) (s : State) : Host.Outcome State Fault Refusal :=
  finish (s.writeX xd (mixB64 s.params (s.readX xs)))

end Sys2Proof.Machine
end

