-- ==== Sys2Proof/Machine/VectorMixers.lean ====
section
/-! DEFINITION. Machine/VectorMixers.lean: the lane-parallel mixers and lane access (43_vector_mixers): `VMIXA`, `VMIXB`,
`VSET`, `VGET`, `VBCAST`. The vector mixers are the scalar functions applied lane by lane (R140). -/

namespace Sys2Proof.Machine

/-- A lane index is in range (30_encoding R75). -/
def laneInRange (s : State) (lane : Imm) : Bool := decide (lane.toNat < s.params.lanes)

/-- `VMIXA vd, vs` (43 R141): all lanes of the source are read before any lane is written. -/
def execVmixa (vd vs : VReg) (s : State) : Host.Outcome State Fault Refusal :=
  finish (s.writeV vd ((s.readV vs).map (mixA64 s.params)))

/-- `VMIXB vd, vs` (43 R142). -/
def execVmixb (vd vs : VReg) (s : State) : Host.Outcome State Fault Refusal :=
  finish (s.writeV vd ((s.readV vs).map (mixB64 s.params)))

/-- `VSET vd, xs, lane` (43 R144). -/
def execVset (vd : VReg) (xs : XReg) (lane : Imm) (s : State) : Host.Outcome State Fault Refusal :=
  if laneInRange s lane then finish (s.writeLane vd lane.toNat (s.readX xs))
  else trap .indexRange (.vset vd xs lane) s

/-- `VGET xd, vs, lane` (43 R145). -/
def execVget (xd : XReg) (vs : VReg) (lane : Imm) (s : State) : Host.Outcome State Fault Refusal :=
  if laneInRange s lane then finish (s.writeX xd (s.readLane vs lane.toNat))
  else trap .indexRange (.vget xd vs lane) s

/-- `VBCAST vd, xs` (43 R146): every lane takes the scalar. -/
def execVbcast (vd : VReg) (xs : XReg) (s : State) : Host.Outcome State Fault Refusal :=
  finish (s.writeV vd (List.replicate s.params.lanes (s.readX xs)))

end Sys2Proof.Machine
end

