-- ==== Sys2Proof/Machine/Dispatch.lean ====
section
/-! DEFINITION. Machine/Dispatch.lean: the meaning of every command, steps 3 to 7 of 30_encoding R78, one arm each
(DESIGN CHOICE, log 13: the steps before them are in Fetch.lean). -/

namespace Sys2Proof.Machine

def exec (i : Instr) (s : State) : Host.Outcome State Fault Refusal :=
  match i with
  | .li xd value => Sys2Proof.Machine.execLi xd value s
  | .rd xs => Sys2Proof.Machine.execRd xs s
  | .crd xd csr => Sys2Proof.Machine.execCrd xd csr s
  | .cwr csr xs => Sys2Proof.Machine.execCwr csr xs s
  | .pseed xa xb => Sys2Proof.Machine.execPseed xa xb s
  | .pnext32 xd => Sys2Proof.Machine.execPnext32 xd s
  | .pnext64 xd => Sys2Proof.Machine.execPnext64 xd s
  | .mixa64 xd xs => Sys2Proof.Machine.execMixa64 xd xs s
  | .mixa32 xd xs => Sys2Proof.Machine.execMixa32 xd xs s
  | .mixb64 xd xs => Sys2Proof.Machine.execMixb64 xd xs s
  | .vmixa vd vs => Sys2Proof.Machine.execVmixa vd vs s
  | .vmixb vd vs => Sys2Proof.Machine.execVmixb vd vs s
  | .vset vd xs lane => Sys2Proof.Machine.execVset vd xs lane s
  | .vget xd vs lane => Sys2Proof.Machine.execVget xd vs lane s
  | .vbcast vd xs => Sys2Proof.Machine.execVbcast vd xs s
  | .red61 xd xlo xhi => Sys2Proof.Machine.execRed61 xd xlo xhi s
  | .mulmod61 xd xa xb => Sys2Proof.Machine.execMulmod61 xd xa xb s
  | .fmar89 qd xs qa qb => Sys2Proof.Machine.execFmar89 qd xs qa qb s
  | .red89 xd qs => Sys2Proof.Machine.execRed89 xd qs s
  | .qset qd xlo xhi => Sys2Proof.Machine.execQset qd xlo xhi s
  | .qgetl xd qs => Sys2Proof.Machine.execQgetl xd qs s
  | .qgeth xd qs => Sys2Proof.Machine.execQgeth xd qs s
  | .peval xd xs => Sys2Proof.Machine.execPeval xd xs s
  | .cgen => Sys2Proof.Machine.execCgen s
  | .cset idx qs => Sys2Proof.Machine.execCset idx qs s
  | .cget qd idx => Sys2Proof.Machine.execCget qd idx s
  | .vpeval vd vs => Sys2Proof.Machine.execVpeval vd vs s

end Sys2Proof.Machine
end

