-- ==== Sys2Proof/Machine/Fetch.lean ====
section
/-! DEFINITION. Machine/Fetch.lean: what a step does before a command executes: it takes the host's next input, applies a
reset, refuses a command of a halted block, and decodes (30_encoding R78 steps 1 and 2). There is no program counter and
no instruction memory (10_state R21). -/

namespace Sys2Proof.Machine

/-- What the front of a step comes to. -/
inductive Front where
  /-- the step is complete, with this state -/
  | settled (s : State)
  /-- the command `i` is to be executed in this state -/
  | execute (i : Instr) (s : State)
deriving DecidableEq, Repr

/-- The front of an accepted command (30_encoding R78): the halted check comes before decoding (60_exceptions R255); a
word of no row raises `IllegalCommand` (R79). -/
def acceptCommand (c : Command) (s : State) : Front :=
  if s.fault then .settled s.refuseHalted
  else
    match decode c with
    | .ok i => .execute i s
    | .error _ => .settled (s.raise .illegalCommand c.word)

/-- The front of a step: an idle block does nothing (10_state R20; log 4); a reset drops the command in flight
(70_reset R280); a command is accepted. -/
def front (s : State) : Front :=
  match s.inputs with
  | [] => .settled s
  | .reset _ :: rest => .settled { s with inputs := rest }.applyReset
  | .command c :: rest => acceptCommand c { s with inputs := rest }

/-- The host presents `c` as the very next command. -/
def State.present (s : State) (c : Command) : State := { s with inputs := .command c :: s.inputs }

/-- The host presents the commands `cs`, in order, after what it already presents (70_reset R290: a model consumes a list
of commands and produces the list of responses and the final state). -/
def State.presentAll (s : State) (cs : List Command) : State := { s with inputs := s.inputs ++ cs.map .command }

end Sys2Proof.Machine
end

