-- ==== Sys2Proof/Machine/Step.lean ====
section
/-! DEFINITION. Machine/Step.lean: one step of the block (10_state R20), one transaction (70_reset R290; log 9), and the placing of a
command where the next step takes it from. -/

namespace Sys2Proof.Machine

/-- One step: the front of the step, then the command it decoded, if any (30_encoding R78). -/
def step (s : State) : Host.Outcome State Fault Refusal :=
  match front s with
  | .settled s' => .next s'
  | .execute i s' => exec i s'

/-- The command with the `nbits` low bits of `w` becomes the next command the host presents, its data word 0 (log 3). -/
def State.withFetchWord (s : State) (nbits w : Nat) : State := s.present (commandOfBits nbits w)

end Sys2Proof.Machine
end

