-- ==== Sys2Proof/Machine/Assembler.lean ====
section
/-! DEFINITION. Machine/Assembler.lean: the spec's way of writing a command (30_encoding R83): a mnemonic, then the operands in
the order rd, rs1, rs2, rs3, imm as the table of R83 lists them; no pseudo-instructions (R84). A line is a list of
characters, and a semicolon starts a comment (R83). What R83 leaves open of the spelling of a line is a DESIGN CHOICE,
log 15. -/

namespace Sys2Proof.Machine

/-- The value of a digit in base 10 or 16. R83 is silent on the case of a hexadecimal digit: both cases are taken (DESIGN
CHOICE, log 15). -/
def asmDigit (base : Nat) (c : Char) : Option Nat :=
  let n := c.toNat
  let v := if 48 ≤ n ∧ n ≤ 57 then n - 48
    else if 65 ≤ n ∧ n ≤ 70 then n - 55
    else if 97 ≤ n ∧ n ≤ 102 then n - 87 else base
  if v < base then some v else none

/-- The digits that follow a number's beginning `acc`. -/
def asmDigits (base : Nat) : List Char → Nat → Option Nat
  | [], acc => some acc
  | c :: rest, acc =>
    match asmDigit base c with
    | some v => asmDigits base rest (acc * base + v)
    | none => none

/-- A decimal number, not empty; leading zeros are taken (DESIGN CHOICE, log 15). -/
def asmDecimal : List Char → Option Nat
  | [] => none
  | c :: rest => asmDigits 10 (c :: rest) 0

/-- A number, decimal or with `0x` hexadecimal (30_encoding R83); leading zeros are taken, `0X` is not (DESIGN CHOICE,
log 15). -/
def asmNum : List Char → Option Nat
  | '0' :: 'x' :: c :: rest => asmDigits 16 (c :: rest) 0
  | w => asmDecimal w

/-- A number of at most `n` bits; R83 does not say what a larger one stands for, and it is refused (DESIGN CHOICE, log
15). -/
def asmBits (n : Nat) (w : List Char) : Option (BitVec n) :=
  match asmNum w with
  | some v => if v < 2 ^ n then some (BitVec.ofNat n v) else none
  | none => none

/-- A register: its letter, then its number in decimal (30_encoding R83). R83 spells no number with a leading zero: `x01`
is taken for `x1` (DESIGN CHOICE, log 15). -/
def asmReg (n : Nat) (letter : Char) : List Char → Option (BitVec n)
  | [] => none
  | c :: rest =>
    if c = letter then
      match asmDecimal rest with
      | some v => if v < 2 ^ n then some (BitVec.ofNat n v) else none
      | none => none
    else none

/-- `x0` .. `x15`. -/
def asmX (w : List Char) : Option XReg := asmReg 4 'x' w

/-- `q0` .. `q3`. -/
def asmQ (w : List Char) : Option QReg := asmReg 2 'q' w

/-- `v0` .. `v3`. -/
def asmV (w : List Char) : Option VReg := asmReg 2 'v' w

/-- A lane or coefficient index. -/
def asmIndex (w : List Char) : Option Imm := asmBits 8 w

/-- A 64-bit literal. -/
def asmNum64 (w : List Char) : Option U64 := asmBits 64 w

/-- A control register by name or number (30_encoding R83; the names of 10_state R26). R83 gives no base for the number:
decimal and `0x` are both taken, as for an index (DESIGN CHOICE, log 15). -/
def asmCsr (w : List Char) : Option Imm :=
  match String.ofList w with
  | "HWCFG" => some 0x00
  | "CFG" => some 0x01
  | "PSTATE" => some 0x02
  | "PINC" => some 0x03
  | _ => asmBits 8 w

/-- The command that a mnemonic and its operands write (30_encoding R83); none where the table has no such line. -/
def assembleWords (mnemonic : String) (operands : List (List Char)) : Option Instr :=
  match mnemonic, operands with
  | "LI", [a, b] => do return .li (← asmX a) (← asmNum64 b)
  | "RD", [a] => do return .rd (← asmX a)
  | "CRD", [a, b] => do return .crd (← asmX a) (← asmCsr b)
  | "CWR", [a, b] => do return .cwr (← asmCsr a) (← asmX b)
  | "PSEED", [a, b] => do return .pseed (← asmX a) (← asmX b)
  | "PNEXT32", [a] => do return .pnext32 (← asmX a)
  | "PNEXT64", [a] => do return .pnext64 (← asmX a)
  | "MIXA64", [a, b] => do return .mixa64 (← asmX a) (← asmX b)
  | "MIXA32", [a, b] => do return .mixa32 (← asmX a) (← asmX b)
  | "MIXB64", [a, b] => do return .mixb64 (← asmX a) (← asmX b)
  | "VMIXA", [a, b] => do return .vmixa (← asmV a) (← asmV b)
  | "VMIXB", [a, b] => do return .vmixb (← asmV a) (← asmV b)
  | "VSET", [a, b, c] => do return .vset (← asmV a) (← asmX b) (← asmIndex c)
  | "VGET", [a, b, c] => do return .vget (← asmX a) (← asmV b) (← asmIndex c)
  | "VBCAST", [a, b] => do return .vbcast (← asmV a) (← asmX b)
  | "RED61", [a, b, c] => do return .red61 (← asmX a) (← asmX b) (← asmX c)
  | "MULMOD61", [a, b, c] => do return .mulmod61 (← asmX a) (← asmX b) (← asmX c)
  | "FMAR89", [a, b, c, d] => do return .fmar89 (← asmQ a) (← asmX b) (← asmQ c) (← asmQ d)
  | "RED89", [a, b] => do return .red89 (← asmX a) (← asmQ b)
  | "QSET", [a, b, c] => do return .qset (← asmQ a) (← asmX b) (← asmX c)
  | "QGETL", [a, b] => do return .qgetl (← asmX a) (← asmQ b)
  | "QGETH", [a, b] => do return .qgeth (← asmX a) (← asmQ b)
  | "PEVAL", [a, b] => do return .peval (← asmX a) (← asmX b)
  | "CGEN", [] => some .cgen
  | "CSET", [a, b] => do return .cset (← asmIndex a) (← asmQ b)
  | "CGET", [a, b] => do return .cget (← asmQ a) (← asmIndex b)
  | "VPEVAL", [a, b] => do return .vpeval (← asmV a) (← asmV b)
  | _, _ => none

/-- A finished word, if it has a character. -/
def asmFlush (word : List Char) : List (List Char) := if word.isEmpty then [] else [word.reverse]

/-- The words of a line; `word` holds the characters of the word being read, last first. A run of spaces and commas
separates two words, whichever of the two it holds (DESIGN CHOICE, log 15). -/
def asmWords : List Char → List Char → List (List Char)
  | [], word => asmFlush word
  | c :: rest, word =>
    if c = ';' then asmFlush word
    else if c = ' ' || c = ',' then asmFlush word ++ asmWords rest []
    else asmWords rest (c :: word)

/-- The instruction a line of assembler writes, none where it writes none. -/
def assembleInstr (line : List Char) : Option Instr :=
  match asmWords line [] with
  | [] => none
  | mnemonic :: operands => assembleWords (String.ofList mnemonic) operands

/-- The command a line of assembler writes: its word, and the data word (0 for every command but `LI`, 30_encoding
R83). -/
def assemble (line : List Char) : Option Command := (assembleInstr line).map encode

end Sys2Proof.Machine
end

