-- ==== Sys2Proof/WellFormed.lean ====
section
/-! DEFINITION. WellFormed.lean: which decoded commands are legal on an instance as they stand, whatever the state:
those that pass the checks of 30_encoding R78 steps 3 and 5 (an absent backend R81, the ranges of `imm` R75). The
specifier and unused-field conditions (R73, R74) cannot fail in a term of `Instr`: they are the decoder's. An ill-formed
command is not stuck: executing it raises the fault that the spec names. -/

namespace Sys2Proof

/-- The command's backend is present (30_encoding R81): only `RED61`, `MULMOD61`, `FMAR89` and `RED89` need one. -/
def Instr.backendPresent (p : Params) : Instr → Bool
  | .li _ _ => true
  | .rd _ => true
  | .crd _ _ => true
  | .cwr _ _ => true
  | .pseed _ _ => true
  | .pnext32 _ => true
  | .pnext64 _ => true
  | .mixa64 _ _ => true
  | .mixa32 _ _ => true
  | .mixb64 _ _ => true
  | .vmixa _ _ => true
  | .vmixb _ _ => true
  | .vset _ _ _ => true
  | .vget _ _ _ => true
  | .vbcast _ _ => true
  | .red61 _ _ _ => p.has61
  | .mulmod61 _ _ _ => p.has61
  | .fmar89 _ _ _ _ => p.has89
  | .red89 _ _ => p.has89
  | .qset _ _ _ => true
  | .qgetl _ _ => true
  | .qgeth _ _ => true
  | .peval _ _ => true
  | .cgen => true
  | .cset _ _ => true
  | .cget _ _ => true
  | .vpeval _ _ => true

/-- The immediate is in its range (30_encoding R75), and a `CWR` does not name the read-only `HWCFG` (R78 step 5). -/
def Instr.immInRange (p : Params) : Instr → Bool
  | .li _ _ => true
  | .rd _ => true
  | .crd _ csr => decide (csr.toNat ≤ 3)
  | .cwr csr _ => decide (1 ≤ csr.toNat) && decide (csr.toNat ≤ 3)
  | .pseed _ _ => true
  | .pnext32 _ => true
  | .pnext64 _ => true
  | .mixa64 _ _ => true
  | .mixa32 _ _ => true
  | .mixb64 _ _ => true
  | .vmixa _ _ => true
  | .vmixb _ _ => true
  | .vset _ _ lane => decide (lane.toNat < p.lanes)
  | .vget _ _ lane => decide (lane.toNat < p.lanes)
  | .vbcast _ _ => true
  | .red61 _ _ _ => true
  | .mulmod61 _ _ _ => true
  | .fmar89 _ _ _ _ => true
  | .red89 _ _ => true
  | .qset _ _ _ => true
  | .qgetl _ _ => true
  | .qgeth _ _ => true
  | .peval _ _ => true
  | .cgen => true
  | .cset idx _ => decide (idx.toNat < p.kmax)
  | .cget _ idx => decide (idx.toNat < p.kmax)
  | .vpeval _ _ => true

/-- A command that is legal on the instance `p` as it stands. -/
def Instr.wellFormed (p : Params) (i : Instr) : Bool := i.backendPresent p && i.immInRange p

end Sys2Proof
end

