-- ==== Sys2Proof/Safety.lean ====
section
/-! DEFINITION. Safety.lean: the terms in which statements about runs are made: what holds of every state the block can
be in (the invariants the spec states), the halted and the running block, and which commands may write which state. -/

namespace Sys2Proof.Machine

/-- The block is halted (60_exceptions R255). -/
abbrev State.Halted (s : State) : Prop := s.fault = true

/-- The block is not halted. -/
abbrev State.Running (s : State) : Prop := s.fault = false

/-- Every vector register has `LANES` lanes (10_state R24). -/
abbrev State.LanesOk (s : State) : Prop := ∀ r : VReg, (s.readV r).length = s.params.lanes

/-- `INC[0] = 1` at all times (10_state R25). -/
abbrev State.IncOdd (s : State) : Prop := s.prngInc.getLsbD 0 = true

/-- `CFG` holds a legal value: `K <= KMAX` and the backend is present (10_state R28). -/
abbrev State.CfgOk (s : State) : Prop := s.cfgK.toNat ≤ s.params.kmax ∧ backendHas s.params s.cfgBk = true

/-- The fault latch holds what a reset or one fault left: nothing, or a cause code 1..6 (10_state R30, 60_exceptions
R251). -/
abbrev State.LatchOk (s : State) : Prop :=
  (s.fault = false → s.fcause = 0 ∧ s.fcmd = 0) ∧ (s.fault = true → 1 ≤ s.fcause.toNat ∧ s.fcause.toNat ≤ 6)

/-- A response is legal: its status is 0, a cause code or 0xF, and its data is 0 unless its status is 0 (30_encoding
R71). -/
abbrev Response.Ok (r : Response) : Prop :=
  (r.status.toNat ≤ 6 ∨ r.status = statusHalted) ∧ (r.status ≠ statusOk → r.data = 0)

/-- Every response produced is legal, and the response port shows the last one or none (30_encoding R71, 70_reset R281). -/
abbrev State.ResponsesOk (s : State) : Prop :=
  (∀ r ∈ s.responses, r.Ok) ∧ (s.rsp = none ∨ s.rsp = s.responses.getLast?)

/-- What holds of every state a well-formed instance can be in. -/
structure State.Inv (s : State) : Prop where
  /-- the parameter set is well-formed (00_scope R6) -/
  params_wf : s.params.wf = true
  /-- every vector register has `LANES` lanes -/
  lanes_ok : s.LanesOk
  /-- `INC` is odd -/
  inc_odd : s.IncOdd
  /-- `CFG` is legal -/
  cfg_ok : s.CfgOk
  /-- the coefficient memory is in its canonical form, with no index at or above `KMAX` -/
  coef_wf : s.coef.wf s.params.kmax
  /-- the fault latch is legal -/
  latch_ok : s.LatchOk
  /-- the responses are legal -/
  responses_ok : s.ResponsesOk

end Sys2Proof.Machine

namespace Sys2Proof

open Sys2Proof.Machine (Cause)

/-- A limb triple is canonical (20_memory R54, Backend 89). -/
abbrev Limbs.Canonical89 (t : Limbs) : Prop := t.val96 < p89

/-- The causes a well-formed command word of this instruction can raise (60_exceptions R252), `IllegalCommand` only for
the commands of an absent backend (30_encoding R81). -/
def Instr.mayRaise : Instr → List Cause
  | .li _ _ => []
  | .rd _ => []
  | .crd _ _ => [.csrAccess]
  | .cwr _ _ => [.csrAccess, .config]
  | .pseed _ _ => []
  | .pnext32 _ => []
  | .pnext64 _ => []
  | .mixa64 _ _ => []
  | .mixa32 _ _ => []
  | .mixb64 _ _ => []
  | .vmixa _ _ => []
  | .vmixb _ _ => []
  | .vset _ _ _ => [.indexRange]
  | .vget _ _ _ => [.indexRange]
  | .vbcast _ _ => []
  | .red61 _ _ _ => [.illegalCommand]
  | .mulmod61 _ _ _ => [.illegalCommand]
  | .fmar89 _ _ _ _ => [.illegalCommand, .limbOverflow]
  | .red89 _ _ => [.illegalCommand]
  | .qset _ _ _ => []
  | .qgetl _ _ => []
  | .qgeth _ _ => []
  | .peval _ _ => [.config, .limbOverflow]
  | .cgen => [.config]
  | .cset _ _ => [.indexRange]
  | .cget _ _ => [.indexRange]
  | .vpeval _ _ => [.unsupported]

/-- The scalar register the command writes, if it writes one (10_state R22). -/
def Instr.destX : Instr → Option XReg
  | .li xd _ => some xd
  | .rd _ => none
  | .crd xd _ => some xd
  | .cwr _ _ => none
  | .pseed _ _ => none
  | .pnext32 xd => some xd
  | .pnext64 xd => some xd
  | .mixa64 xd _ => some xd
  | .mixa32 xd _ => some xd
  | .mixb64 xd _ => some xd
  | .vmixa _ _ => none
  | .vmixb _ _ => none
  | .vset _ _ _ => none
  | .vget xd _ _ => some xd
  | .vbcast _ _ => none
  | .red61 xd _ _ => some xd
  | .mulmod61 xd _ _ => some xd
  | .fmar89 _ _ _ _ => none
  | .red89 xd _ => some xd
  | .qset _ _ _ => none
  | .qgetl xd _ => some xd
  | .qgeth xd _ => some xd
  | .peval xd _ => some xd
  | .cgen => none
  | .cset _ _ => none
  | .cget _ _ => none
  | .vpeval _ _ => none

/-- The limb register the command writes: only `QSET`, `CGET` and `FMAR89` write one (10_state R23). -/
def Instr.destQ : Instr → Option QReg
  | .qset qd _ _ => some qd
  | .cget qd _ => some qd
  | .fmar89 qd _ _ _ => some qd
  | .li _ _ | .rd _ | .crd _ _ | .cwr _ _ | .pseed _ _ | .pnext32 _ | .pnext64 _ | .mixa64 _ _ | .mixa32 _ _
  | .mixb64 _ _ | .vmixa _ _ | .vmixb _ _ | .vset _ _ _ | .vget _ _ _ | .vbcast _ _ | .red61 _ _ _
  | .mulmod61 _ _ _ | .red89 _ _ | .qgetl _ _ | .qgeth _ _ | .peval _ _ | .cgen | .cset _ _ | .vpeval _ _ => none

/-- The vector register the command writes: only `VSET`, `VBCAST`, `VMIXA` and `VMIXB` write one (10_state R24). -/
def Instr.destV : Instr → Option VReg
  | .vset vd _ _ => some vd
  | .vbcast vd _ => some vd
  | .vmixa vd _ => some vd
  | .vmixb vd _ => some vd
  | .li _ _ | .rd _ | .crd _ _ | .cwr _ _ | .pseed _ _ | .pnext32 _ | .pnext64 _ | .mixa64 _ _ | .mixa32 _ _
  | .mixb64 _ _ | .vget _ _ _ | .red61 _ _ _ | .mulmod61 _ _ _ | .fmar89 _ _ _ _ | .red89 _ _ | .qset _ _ _
  | .qgetl _ _ | .qgeth _ _ | .peval _ _ | .cgen | .cset _ _ | .cget _ _ | .vpeval _ _ => none

/-- The command can change `STATE`: it draws (`PNEXT32`, `PNEXT64`, `CGEN`), seeds (`PSEED`) or is a `CWR` to `PSTATE`
(41_prng R100). -/
def Instr.movesGenerator : Instr → Bool
  | .pseed _ _ | .pnext32 _ | .pnext64 _ | .cgen => true
  | .cwr csr _ => csr == 2
  | .li _ _ | .rd _ | .crd _ _ | .mixa64 _ _ | .mixa32 _ _ | .mixb64 _ _ | .vmixa _ _ | .vmixb _ _ | .vset _ _ _
  | .vget _ _ _ | .vbcast _ _ | .red61 _ _ _ | .mulmod61 _ _ _ | .fmar89 _ _ _ _ | .red89 _ _ | .qset _ _ _
  | .qgetl _ _ | .qgeth _ _ | .peval _ _ | .cset _ _ | .cget _ _ | .vpeval _ _ => false

/-- The command can change `INC`: `PSEED`, or a `CWR` to `PINC` (10_state R25). -/
def Instr.writesIncrement : Instr → Bool
  | .pseed _ _ => true
  | .cwr csr _ => csr == 3
  | .li _ _ | .rd _ | .crd _ _ | .pnext32 _ | .pnext64 _ | .mixa64 _ _ | .mixa32 _ _ | .mixb64 _ _ | .vmixa _ _
  | .vmixb _ _ | .vset _ _ _ | .vget _ _ _ | .vbcast _ _ | .red61 _ _ _ | .mulmod61 _ _ _ | .fmar89 _ _ _ _
  | .red89 _ _ | .qset _ _ _ | .qgetl _ _ | .qgeth _ _ | .peval _ _ | .cgen | .cset _ _ | .cget _ _
  | .vpeval _ _ => false

/-- The command can change the coefficient memory: `CSET`, `CGEN`, or a `CWR` to `CFG` (20_memory R50). -/
def Instr.writesCoefs : Instr → Bool
  | .cset _ _ | .cgen => true
  | .cwr csr _ => csr == 1
  | .li _ _ | .rd _ | .crd _ _ | .pseed _ _ | .pnext32 _ | .pnext64 _ | .mixa64 _ _ | .mixa32 _ _ | .mixb64 _ _
  | .vmixa _ _ | .vmixb _ _ | .vset _ _ _ | .vget _ _ _ | .vbcast _ _ | .red61 _ _ _ | .mulmod61 _ _ _
  | .fmar89 _ _ _ _ | .red89 _ _ | .qset _ _ _ | .qgetl _ _ | .qgeth _ _ | .peval _ _ | .cget _ _
  | .vpeval _ _ => false

end Sys2Proof

namespace Sys2Proof.Machine

/-- The state `s` after the one response `r` of a command. -/
def State.answered (s : State) (r : Response) : State := { s with rsp := some r, responses := s.responses ++ [r] }

/-- The state `s` after a fault with cause code `code` of the command with word `w`, as 60_exceptions R253 lists it. -/
def State.faulted (s : State) (code : BitVec 4) (w : U32) : State :=
  { s with fault := true, fcause := code, fcmd := w }.answered ⟨code, 0⟩

/-- The generator's state after `n` draws (41_prng R101). -/
def prngAfter (inc : U64) : Nat → U64 → U64
  | 0, st => st
  | n + 1, st => prngAfter inc n (prngAdvance st inc)

/-- The output of draw number `n`, counted from 0, of the generator in state `s` (41_prng R101). -/
def State.drawNumber (s : State) (n : Nat) : U32 := prngOutput (prngAfter s.prngInc n s.prngState)

/-- Execution of several commands one after another, each complete before the next (20_memory R60). -/
def execAll : List Instr → State → Host.Outcome State Fault Refusal
  | [], s => .next s
  | i :: rest, s =>
    match exec i s with
    | .next t => execAll rest t
    | .fault f => .fault f
    | .refused r => .refused r

end Sys2Proof.Machine
end

