-- ==== Sys2Proof/Certificates/Slice0/Obligations.lean ====
section
/-! DEFINITION. Certificates/Slice0/Obligations.lean: the statements for the provers. A state after a command is written as a
record update of the state before it, so that every field not named is unchanged (the frame), under `answered` (the one
response) or `faulted` (60_exceptions R253). -/

open Sys2Proof Sys2Proof.Machine

/-- After reset every piece of state holds the value the spec gives (R33). -/
def Obligations.ResetStateIsTheSpecifiedOne : Prop :=
  (∀ p : Params,
    (∀ r, (State.resetOf p).readX r = 0) ∧ (∀ r, (State.resetOf p).readQ r = ⟨0, 0, 0⟩) ∧
    (∀ r, (State.resetOf p).readV r = List.replicate p.lanes 0) ∧ (∀ i, (State.resetOf p).readC i = ⟨0, 0, 0⟩) ∧
    (State.resetOf p).prngState = 0 ∧ (State.resetOf p).prngInc = 1 ∧ (State.resetOf p).cfgK = 0 ∧
    (State.resetOf p).cfgBk = (if p.has61 then .b61 else .b89) ∧ (State.resetOf p).fault = false ∧
    (State.resetOf p).fcause = 0 ∧ (State.resetOf p).fcmd = 0 ∧
    (State.resetOf p).readCsr 0 = some (hwcfgWord p)) ∧
  State.reset = State.resetOf Params.default

/-- Asserting rst gives the reset state from any state, halted or not, and drops a command in flight without a
response (model form: log 5) (70_reset_and_hazards.md section 1, 60_exceptions.md section 1). -/
def Obligations.ResetInputGivesTheResetState : Prop :=
  ∀ (s : State) (inFlight : Option Command) (rest : List HostInput), s.inputs = .reset inFlight :: rest →
    ∃ t, step s = .next t ∧ t = { State.resetOf s.params with inputs := rest, responses := s.responses } ∧
      t.outputs = ⟨false, false, 0, 0⟩

/-- A step of a running block executes the instruction its next command decodes to (30_encoding.md section 3,
10_state.md section 1). -/
def Obligations.StepRunsTheDecodedInstruction : Prop :=
  ∀ (s : State) (c : Command) (rest : List HostInput) (i : Instr),
    s.Running → s.inputs = .command c :: rest → decode c = .ok i → step s = exec i { s with inputs := rest }

/-- Every step answers a next state, and a step with no input presented changes nothing: the block never acts on its
own (10_state.md section 1, 60_exceptions.md section 1). That an idle step exists is the model's form of R20
(log 4). -/
def Obligations.StepIsTotal : Prop :=
  ∀ s : State, (∃ t : State, step s = .next t) ∧ (s.inputs = [] → step s = .next s)

/-- A halted block answers every command with status 0xF and changes no state (R255). -/
def Obligations.HaltedBlockRefusesEveryCommand : Prop :=
  ∀ (s : State) (c : Command) (rest : List HostInput), s.Halted → s.inputs = .command c :: rest →
    step s = .next ({ s with inputs := rest }.answered ⟨0xF, 0⟩)

/-- No sequence of commands leaves the halted state or changes anything in it (60_exceptions.md section 1). -/
def Obligations.HaltedUntilReset : Prop :=
  ∀ (s : State) (cs : List Command), s.Halted → s.inputs = cs.map .command →
    ∃ t, Sys2Proof.core.run cs.length s = .next t ∧
      t = { s with inputs := [], rsp := (if cs = [] then s.rsp else some ⟨0xF, 0⟩),
                   responses := s.responses ++ List.replicate cs.length ⟨0xF, 0⟩ }

/-- Every accepted command produces exactly one response, of the status and data the spec gives (R71). -/
def Obligations.OneResponsePerCommand : Prop :=
  ∀ (s : State) (c : Command) (rest : List HostInput), s.inputs = .command c :: rest →
    ∃ (t : State) (r : Response), step s = .next t ∧ t.inputs = rest ∧ t.rsp = some r ∧
      t.responses = s.responses ++ [r] ∧
      ((r.status = 0 ∧ s.Running ∧ t.Running) ∨
       (1 ≤ r.status.toNat ∧ r.status.toNat ≤ 6 ∧ s.Running ∧ t.Halted ∧ t.fcause = r.status) ∨
       (r.status = 0xF ∧ s.Halted)) ∧
      (∀ xs, r.status = 0 → decode c = .ok (.rd xs) → r.data = s.readX xs) ∧
      ((r.status ≠ 0 ∨ ∀ xs, decode c ≠ .ok (.rd xs)) → r.data = 0)

/-- A command that faults sets the latch, answers its cause code, and changes nothing else (R253). -/
def Obligations.FaultEntryIsPrecise : Prop :=
  ∀ (s t : State) (c : Command) (rest : List HostInput), s.Running → s.inputs = .command c :: rest →
    step s = .next t → t.Halted →
    ∃ code : BitVec 4, 1 ≤ code.toNat ∧ code.toNat ≤ 6 ∧ t = { s with inputs := rest }.faulted code c.word

/-- Each instruction raises only the faults listed for it; otherwise the latch is untouched and the response says OK
(60_exceptions.md section 1). -/
def Obligations.FaultsRaisedAreTheListedOnes : Prop :=
  ∀ (i : Instr) (s t : State), s.Running → exec i s = .next t →
    (∃ c ∈ i.mayRaise, t = s.faulted (causeCode c) (encodeWord i)) ∨
    (t.Running ∧ t.fcause = s.fcause ∧ t.fcmd = s.fcmd ∧
      ∃ d, t.rsp = some ⟨0, d⟩ ∧ t.responses = s.responses ++ [⟨0, d⟩])

/-- Every fault listed for an instruction is raised by it in some running state that meets the invariant
(60_exceptions.md section 1). -/
def Obligations.ListedFaultsOccur : Prop :=
  ∀ (i : Instr) (c : Cause), c ∈ i.mayRaise →
    ∃ (j : Instr) (s : State), j.mnemonic = i.mnemonic ∧ s.Inv ∧ s.Running ∧
      exec j s = .next (s.faulted (causeCode c) (encodeWord j))

/-- A command fails the backend or range check exactly when it is not well-formed for the instance, whatever the
state (30_encoding.md section 3, 30_encoding.md section 2). -/
def Obligations.StaticChecksAreWellFormedness : Prop :=
  ∀ (i : Instr) (s : State), s.Running →
    (i.wellFormed s.params = false ↔
      ∃ c ∈ [Cause.illegalCommand, Cause.indexRange, Cause.csrAccess],
        exec i s = .next (s.faulted (causeCode c) (encodeWord i)))

/-- Decoding the encoding of any instruction gives it back, with every operand at every value (30_encoding.md
section 2, 30_encoding.md section 3). -/
def Obligations.DecodeOfEncodeIsTheInstruction : Prop :=
  ∀ i : Instr, decode (encode i) = .ok i

/-- A word that decodes has one meaning: encoding the instruction gives the word back (30_encoding.md section 3). -/
def Obligations.EncodeOfDecodeIsTheCommand : Prop :=
  ∀ (c : Command) (i : Instr), decode c = .ok i →
    encodeWord i = c.word ∧ (∀ xd v, i = .li xd v → v = c.data)

/-- A word decodes to a command exactly when it matches that row of the opcode map under its mask (30_encoding.md
section 3). -/
def Obligations.DecodeAcceptsExactlyTheTable : Prop :=
  opcodeRows.length = 27 ∧ (∀ i : Instr, ∃ r ∈ opcodeRows, r.mnemonic = i.mnemonic) ∧
  ∀ r ∈ opcodeRows, ∀ (w : U32) (d : U64),
    (w &&& r.mask = r.pattern ↔ ∃ i, decode ⟨w, d⟩ = .ok i ∧ i.mnemonic = r.mnemonic)

/-- The masks make the rows of the opcode map disjoint: no word matches two (30_encoding.md section 3). -/
def Obligations.OpcodeRowsAreDisjoint : Prop :=
  opcodeRows.Pairwise fun a b => ∀ w : U32, ¬ (w &&& a.mask = a.pattern ∧ w &&& b.mask = b.pattern)

/-- A word that matches no row raises IllegalCommand, cause 1, with the word in FCMD (30_encoding.md section 3). -/
def Obligations.UnmatchedWordIsIllegal : Prop :=
  ∀ (s : State) (c : Command) (rest : List HostInput), s.Running → s.inputs = .command c :: rest →
    (∀ r ∈ opcodeRows, c.word &&& r.mask ≠ r.pattern) →
    step s = .next ({ s with inputs := rest }.faulted 1 c.word)

/-- Words the spec writes out decode to the commands it writes beside them (30_encoding.md section 3, 30_encoding.md
section 5, 95_test_vectors.md section 7). -/
def Obligations.ListedWordsDecode : Prop :=
  decode ⟨0x01100000, 7⟩ = .ok (.li 1 7) ∧ decode ⟨0x09030001, 0⟩ = .ok (.cwr 1 3) ∧
  decode ⟨0x10012000, 0⟩ = .ok (.pseed 1 2) ∧ decode ⟨0x22210000, 0⟩ = .ok (.mixb64 2 1) ∧
  decode ⟨0x2D310002, 0⟩ = .ok (.vget 3 1 2) ∧ decode ⟨0x30312000, 0⟩ = .ok (.red61 3 1 2) ∧
  decode ⟨0x38040100, 0⟩ = .ok (.fmar89 0 4 0 1) ∧ decode ⟨0x42020005, 0⟩ = .ok (.cset 5 2) ∧
  decode ⟨0, 0⟩ = .error .unassignedOpcode ∧ decode ⟨0xFFFFFFFF, 0⟩ = .error .unassignedOpcode

/-- A refused word is IllegalCommand before any other fault; CWR to HWCFG is CsrAccess whatever the value; PEVAL
with K = 0 is Config (60_exceptions.md section 1, 30_encoding.md section 3). -/
def Obligations.FirstFailingCheckDecides : Prop :=
  ∀ s : State, s.Running →
    (∀ (c : Command) (e : DecodeError), decode c = .error e → step (s.present c) = .next (s.faulted 1 c.word)) ∧
    (∀ d : U64, step (s.present ⟨0x48400000, d⟩) = .next (s.faulted 1 0x48400000) ∧
      step (s.present ⟨0x09110007, d⟩) = .next (s.faulted 1 0x09110007)) ∧
    (∀ xs, exec (.cwr 0 xs) s = .next (s.faulted 4 (encodeWord (.cwr 0 xs)))) ∧
    (s.cfgK = 0 → ∀ xd xs, exec (.peval xd xs) s = .next (s.faulted 5 (encodeWord (.peval xd xs))))

/-- Every step from every state that meets the invariant gives a state that meets it (10_state.md section 3,
10_state.md section 4, 10_state.md section 5, 20_memory.md section 1, 30_encoding.md section 1). -/
def Obligations.StepKeepsTheInvariant : Prop :=
  ∀ s t : State, s.Inv → step s = .next t → t.Inv

/-- The reset state of every well-formed instance meets the invariant, the machine's own included (10_state.md
section 8, 00_scope.md section 3). -/
def Obligations.ResetMeetsTheInvariant : Prop :=
  (∀ p : Params, p.wf = true → (State.resetOf p).Inv) ∧ State.reset.Inv

/-- No step changes the configuration record, so HWCFG is constant (00_scope.md section 3, 10_state.md section 4). -/
def Obligations.ParametersNeverChange : Prop :=
  ∀ s t : State, step s = .next t → t.params = s.params ∧ t.readCsr 0 = s.readCsr 0

/-- A scalar, limb or vector register changes only when it is the destination of the command (10_state.md section
2). -/
def Obligations.RegistersChangeOnlyAsDestinations : Prop :=
  ∀ (i : Instr) (s t : State), exec i s = .next t →
    (∀ r, i.destX ≠ some r → t.readX r = s.readX r) ∧
    (∀ r, i.destQ ≠ some r → t.readQ r = s.readQ r) ∧
    (∀ r, i.destV ≠ some r → t.readV r = s.readV r)

/-- Only PSEED, PNEXT32, PNEXT64, CGEN and CWR to PSTATE or PINC change the generator (10_state.md section 3,
41_prng.md section 1). -/
def Obligations.GeneratorChangesOnlyByItsCommands : Prop :=
  ∀ (i : Instr) (s t : State), exec i s = .next t →
    (i.movesGenerator = false → t.prngState = s.prngState) ∧
    (i.writesIncrement = false → t.prngInc = s.prngInc)

/-- Only CSET, CGEN and CWR to CFG change the coefficient memory; only CWR to CFG changes CFG (20_memory.md section
1, 10_state.md section 4). -/
def Obligations.CoefficientsChangeOnlyByTheirCommands : Prop :=
  ∀ (i : Instr) (s t : State), exec i s = .next t →
    (i.writesCoefs = false → ∀ j, t.readC j = s.readC j) ∧
    ((∀ xs, i ≠ .cwr 1 xs) → t.cfgK = s.cfgK ∧ t.cfgBk = s.cfgBk)

/-- LI writes the data word to its register and nothing else (R221). -/
def Obligations.LiLoadsTheDataWord : Prop :=
  ∀ (s : State) (d : XReg) (v : U64), s.Running →
    encode (.li d v) = ⟨wordOf ⟨0x01, d, 0, 0, 0, 0⟩, v⟩ ∧
    exec (.li d v) s = .next ({ s with x := s.x.set d.toNat v d.isLt }.answered ⟨0, 0⟩)

/-- RD answers the register's value and changes no state (R222). -/
def Obligations.RdDeliversTheRegister : Prop :=
  ∀ (s : State) (r : XReg), s.Running →
    encodeWord (.rd r) = wordOf ⟨0x02, 0, r, 0, 0, 0⟩ ∧
    exec (.rd r) s = .next (s.answered ⟨0, s.readX r⟩)

/-- CRD reads HWCFG, CFG, PSTATE or PINC into its register; a number above 3 raises CsrAccess (R232). -/
def Obligations.CrdReadsTheControlRegisters : Prop :=
  ∀ (s : State) (d : XReg) (n : Imm), s.Running →
    encodeWord (.crd d n) = wordOf ⟨0x08, d, 0, 0, 0, n⟩ ∧
    (n.toNat ≤ 3 → ∃ w : U64,
      exec (.crd d n) s = .next ({ s with x := s.x.set d.toNat w d.isLt }.answered ⟨0, 0⟩) ∧
      (n = 0 → w = hwcfgWord s.params) ∧
      (n = 1 → w.toNat = s.cfgK.toNat + (if s.cfgBk = .b89 then 2 ^ 8 else 0)) ∧
      (n = 2 → w = s.prngState) ∧ (n = 3 → w = s.prngInc)) ∧
    (3 < n.toNat → exec (.crd d n) s = .next (s.faulted 4 (encodeWord (.crd d n))))

/-- HWCFG holds LANES mod 256, KMAX, HAS61 and HAS89 in their fields and zeros above, and is read-only (R27). -/
def Obligations.HwcfgHasTheFieldsOfTheInstance : Prop :=
  (∀ p : Params, p.wf = true →
    (hwcfgWord p).toNat = p.lanes % 2 ^ 8 + 2 ^ 8 * p.kmax + (if p.has61 then 2 ^ 16 else 0) +
      (if p.has89 then 2 ^ 17 else 0)) ∧
  hwcfgWord Params.default = 0x31004 ∧
  ∀ (s : State) (xs : XReg), s.Running → exec (.cwr 0 xs) s = .next (s.faulted 4 (encodeWord (.cwr 0 xs)))

/-- CWR writes CFG (zeroing C) when legal, PSTATE, PINC; illegal values and numbers fault and change nothing (R233). -/
def Obligations.CwrWritesTheControlRegisters : Prop :=
  ∀ (s : State) (n : Imm) (xs : XReg), s.Running →
    encodeWord (.cwr n xs) = wordOf ⟨0x09, 0, xs, 0, 0, n⟩ ∧
    (n = 1 →
      if (s.readX xs).toNat < 2 ^ 9 ∧ (s.readX xs).toNat % 2 ^ 8 ≤ s.params.kmax ∧
          (if (s.readX xs).toNat < 2 ^ 8 then s.params.has61 else s.params.has89) = true
      then ∃ t, exec (.cwr n xs) s = .next t ∧ (∀ i, t.readC i = ⟨0, 0, 0⟩) ∧
        t = { s with cfgK := BitVec.ofNat 8 ((s.readX xs).toNat % 2 ^ 8),
                     cfgBk := (if (s.readX xs).toNat < 2 ^ 8 then .b61 else .b89),
                     coef := t.coef }.answered ⟨0, 0⟩
      else exec (.cwr n xs) s = .next (s.faulted 5 (encodeWord (.cwr n xs)))) ∧
    (n = 2 → exec (.cwr n xs) s = .next ({ s with prngState := s.readX xs }.answered ⟨0, 0⟩)) ∧
    (n = 3 → exec (.cwr n xs) s = .next ({ s with prngInc := s.readX xs ||| 1 }.answered ⟨0, 0⟩)) ∧
    (n = 0 ∨ 3 < n.toNat → exec (.cwr n xs) s = .next (s.faulted 4 (encodeWord (.cwr n xs))))

/-- QSET, QGETL and QGETH move limb triples to and from scalar registers, bit for bit (R226, R227, R228). -/
def Obligations.QsetBuildsALimbTriple : Prop :=
  ∀ (s : State) (qd qs : QReg) (xd lo hi : XReg), s.Running →
    encodeWord (.qset qd lo hi) = wordOf ⟨0x3C, qd.setWidth 4, lo, hi, 0, 0⟩ ∧
    exec (.qset qd lo hi) s = .next ({ s with
        q := s.q.set qd.toNat
          ⟨BitVec.ofNat 32 (s.readX lo).toNat, BitVec.ofNat 32 ((s.readX lo).toNat / 2 ^ 32),
          BitVec.ofNat 32 (s.readX hi).toNat⟩ qd.isLt }.answered ⟨0, 0⟩) ∧
    encodeWord (.qgetl xd qs) = wordOf ⟨0x3D, xd, qs.setWidth 4, 0, 0, 0⟩ ∧
    exec (.qgetl xd qs) s = .next ({ s with
        x := s.x.set xd.toNat
          (BitVec.ofNat 64 ((s.readQ qs).l0.toNat + (s.readQ qs).l1.toNat * 2 ^ 32)) xd.isLt }.answered ⟨0, 0⟩) ∧
    encodeWord (.qgeth xd qs) = wordOf ⟨0x3E, xd, qs.setWidth 4, 0, 0, 0⟩ ∧
    exec (.qgeth xd qs) s = .next ({ s with
        x := s.x.set xd.toNat
          (BitVec.ofNat 64 (s.readQ qs).l2.toNat) xd.isLt }.answered ⟨0, 0⟩)

/-- A limb triple survives QGETL, QGETH, QSET, and two scalars survive QSET, QGETL, QGETH, through different
registers (47_move_system.md section 2). -/
def Obligations.LimbMovesRoundTrip : Prop :=
  (∀ (s : State) (qs qd : QReg) (a b : XReg), s.Running → a ≠ b →
    ∃ t, execAll [.qgetl a qs, .qgeth b qs, .qset qd a b] s = .next t ∧ t.readQ qd = s.readQ qs) ∧
  (∀ (s : State) (qd : QReg) (a b c e : XReg), s.Running → c ≠ e →
    ∃ t, execAll [.qset qd a b, .qgetl c qd, .qgeth e qd] s = .next t ∧ t.readX c = s.readX a ∧
      (t.readX e).toNat = (s.readX b).toNat % 2 ^ 32)

/-- PSEED sets STATE to the seed and INC to the selector with its low bit forced to 1 (41_prng.md section 3,
92_eei_decisions.md D9). The seeding without a warm-up draw is what R103 calls its plainest reading of the
source (D9), PRESUMED in log 2. -/
def Obligations.PseedConstructsTheGenerator : Prop :=
  ∀ (s : State) (a b : XReg), s.Running →
    encodeWord (.pseed a b) = wordOf ⟨0x10, 0, a, b, 0, 0⟩ ∧
    exec (.pseed a b) s =
      .next ({ s with prngState := s.readX a, prngInc := s.readX b ||| 1 }.answered ⟨0, 0⟩)

/-- Next32 is the LCG advance modulo 2^64 and the xorshift-rotate output of the pre-advance state (41_prng.md
section 2, 92_eei_decisions.md D10). R101 marks two of its readings, the pre-advance state under both shifts and
the cut to 32 bits, as general knowledge (D10; log 2). -/
def Obligations.Next32IsTheStatedTransform : Prop :=
  ∀ s : State,
    (next32 s).2 = { s with
        prngState :=
          BitVec.ofNat 64 (6364136223846793005 * s.prngState.toNat + s.prngInc.toNat) } ∧
    (next32 s).1 =
      ((((s.prngState >>> 18) ^^^ s.prngState) >>> 27).setWidth 32).rotateRight (s.prngState.toNat / 2 ^ 59)

/-- PNEXT32 and PNEXT64 write one and two draws to their register and advance STATE by one and two steps (R104,
R105). -/
def Obligations.PnextDrawsFromTheGenerator : Prop :=
  ∀ (s : State) (d : XReg), s.Running →
    encodeWord (.pnext32 d) = wordOf ⟨0x11, d, 0, 0, 0, 0⟩ ∧
    exec (.pnext32 d) s = .next ({ s with
        prngState := prngAfter s.prngInc 1 s.prngState,
        x := s.x.set d.toNat ((s.drawNumber 0).setWidth 64) d.isLt }.answered ⟨0, 0⟩) ∧
    encodeWord (.pnext64 d) = wordOf ⟨0x12, d, 0, 0, 0, 0⟩ ∧
    exec (.pnext64 d) s = .next ({ s with
        prngState := prngAfter s.prngInc 2 s.prngState,
        x := s.x.set d.toNat (s.drawNumber 0 ++ s.drawNumber 1) d.isLt }.answered ⟨0, 0⟩)

/-- One PNEXT64 gives the value and the generator state of two PNEXT32 joined first-high (41_prng.md section 3,
41_prng.md section 2). -/
def Obligations.Pnext64IsTwoPnext32 : Prop :=
  ∀ (s : State) (d a : XReg), s.Running →
    ∃ t1 t2 u, exec (.pnext32 a) s = .next t1 ∧ exec (.pnext32 a) t1 = .next t2 ∧ exec (.pnext64 d) s = .next u ∧
      u.prngState = t2.prngState ∧ u.prngInc = t2.prngInc ∧
      (u.readX d).toNat = (t1.readX a).toNat * 2 ^ 32 + (t2.readX a).toNat

/-- The outputs of any sequence of draws are a function of the pair (STATE, INC) at its start (41_prng.md section
4). -/
def Obligations.DrawsDependOnlyOnTheGenerator : Prop :=
  ∀ (is : List Instr) (s1 s2 : State), s1.Running → s2.Running →
    (∀ i ∈ is, ∃ r, i = .pnext32 r ∨ i = .pnext64 r) → s1.prngState = s2.prngState → s1.prngInc = s2.prngInc →
    ∃ t1 t2, execAll is s1 = .next t1 ∧ execAll is s2 = .next t2 ∧ t1.prngState = t2.prngState ∧
      t1.prngInc = t2.prngInc ∧ (∀ i ∈ is, ∀ r, i.destX = some r → t1.readX r = t2.readX r)

/-- MIXA64 and MIXA32 write the mixer of the source register to the destination and nothing else (R125, R126). -/
def Obligations.ScalarMixersWriteTheirResult : Prop :=
  ∀ (s : State) (d r : XReg), s.Running →
    encodeWord (.mixa64 d r) = wordOf ⟨0x20, d, r, 0, 0, 0⟩ ∧
    exec (.mixa64 d r) s =
      .next ({ s with x := s.x.set d.toNat (mixA64 s.params (s.readX r)) d.isLt }.answered ⟨0, 0⟩) ∧
    encodeWord (.mixa32 d r) = wordOf ⟨0x21, d, r, 0, 0, 0⟩ ∧
    exec (.mixa32 d r) s = .next ({ s with
        x := s.x.set d.toNat
          ((mixA32 s.params ((s.readX r).setWidth 32)).setWidth 64) d.isLt }.answered ⟨0, 0⟩)

/-- Each step of Mixer A is the function the spec's table gives, with the affine closed forms of its notes (R121). -/
def Obligations.MixerAStepsHaveTheirClosedForms : Prop :=
  ∀ (n : Nat) (x : BitVec n),
    (∀ s, applyStep n (.cadd s) x = (BitVec.ofNat n (2 ^ s) - 1) * x - 1) ∧
    (∀ s, applyStep n (.addc s) x = (1 - BitVec.ofNat n (2 ^ s)) * x - 1) ∧
    (∀ s, applyStep n (.xsr s) x = x ^^^ BitVec.ofNat n (x.toNat / 2 ^ s)) ∧
    (∀ c, applyStep n (.mul c) x = BitVec.ofNat n (x.toNat * c)) ∧
    ∀ l, applySteps n l x = l.foldl (fun y step => applyStep n step y) x

/-- With the default parameters Mixer A is the spec's shift-and-add sequence, in 64 and in 32 bits (42_mixers.md
section 2, 00_scope.md section 3). -/
def Obligations.DefaultMixerAIsTheListedSteps : Prop :=
  (∀ x : U64, mixA64 Params.default x =
    (let a := ~~~x + (x <<< 21)
     let b := a ^^^ (a >>> 24)
     let c := b + (b <<< 3) + (b <<< 8)
     let d := c ^^^ (c >>> 14)
     let e := d + (d <<< 2) + (d <<< 4)
     let f := e ^^^ (e >>> 28)
     f + (f <<< 31))) ∧
  (∀ x : U32, mixA32 Params.default x =
    (let a := x + ~~~(x <<< 15)
     let b := a ^^^ (a >>> 10)
     let c := b + (b <<< 3)
     let d := c ^^^ (c >>> 6)
     let e := d + ~~~(d <<< 11)
     e ^^^ (e >>> 16)))

/-- For every well-formed parameter set the 64-bit form of Mixer A is a bijection on 64-bit words (42_mixers.md
section 2). The statement is R124, whose clause for every well-formed step list the spec marks as derived. -/
def Obligations.MixerAIsABijection : Prop :=
  ∀ p : Params, p.wf = true → Function.Bijective (mixA64 p)

/-- MIXB64 writes the three-round finalizer of the source; it maps 0 to 0 and is a bijection (42_mixers.md section
3, 92_eei_decisions.md D12). R127 marks the arrangement of the rounds as general knowledge (D12; log 2) and its
bijection as derived. -/
def Obligations.MixerBIsTheThreeRoundFinalizer : Prop :=
  (∀ (s : State) (d r : XReg), s.Running →
    encodeWord (.mixb64 d r) = wordOf ⟨0x22, d, r, 0, 0, 0⟩ ∧
    ∃ x1 x2 x3 x4 x5 : U64,
      x1 = s.readX r ^^^ (s.readX r >>> s.params.mixBS1) ∧ x2 = x1 * s.params.mixBM1 ∧
      x3 = x2 ^^^ (x2 >>> s.params.mixBS2) ∧ x4 = x3 * s.params.mixBM2 ∧ x5 = x4 ^^^ (x4 >>> s.params.mixBS3) ∧
      exec (.mixb64 d r) s = .next ({ s with x := s.x.set d.toNat x5 d.isLt }.answered ⟨0, 0⟩)) ∧
  (∀ p : Params, mixB64 p 0 = 0) ∧
  (∀ p : Params, p.wf = true → Function.Bijective (mixB64 p))

/-- VMIXA and VMIXB apply the scalar mixer to every lane of the source register (R141, R142). -/
def Obligations.VectorMixersMapEveryLane : Prop :=
  ∀ (s : State) (d r : VReg), s.Running →
    encodeWord (.vmixa d r) = wordOf ⟨0x28, d.setWidth 4, r.setWidth 4, 0, 0, 0⟩ ∧
    exec (.vmixa d r) s =
      .next ({ s with v := s.v.set d.toNat ((s.readV r).map (mixA64 s.params)) d.isLt }.answered ⟨0, 0⟩) ∧
    encodeWord (.vmixb d r) = wordOf ⟨0x29, d.setWidth 4, r.setWidth 4, 0, 0, 0⟩ ∧
    exec (.vmixb d r) s =
      .next ({ s with v := s.v.set d.toNat ((s.readV r).map (mixB64 s.params)) d.isLt }.answered ⟨0, 0⟩)

/-- Each lane after VMIXA or VMIXB is what the scalar command writes for that lane's value (43_vector_mixers.md
section 2). The statement is R143, which the spec derives from R141 and R142. -/
def Obligations.ScalarAndVectorMixersAgree : Prop :=
  ∀ (s : State) (vd vs : VReg) (xd r : XReg) (j : Nat), s.Running → s.LanesOk → j < s.params.lanes →
    s.readX r = s.readLane vs j →
    (∃ t u, exec (.vmixa vd vs) s = .next t ∧ exec (.mixa64 xd r) s = .next u ∧
      t.readLane vd j = u.readX xd ∧ t.readLane vd j = mixA64 s.params (s.readLane vs j)) ∧
    (∃ t u, exec (.vmixb vd vs) s = .next t ∧ exec (.mixb64 xd r) s = .next u ∧
      t.readLane vd j = u.readX xd ∧ t.readLane vd j = mixB64 s.params (s.readLane vs j))

/-- VSET writes one lane, VGET reads one, VBCAST writes all; a lane index not below LANES raises IndexRange (R144,
R145, R146). -/
def Obligations.LaneAccessReadsAndWritesOneLane : Prop :=
  ∀ (s : State) (vd : VReg) (r : XReg) (lane : Imm), s.Running → s.LanesOk →
    encodeWord (.vset vd r lane) = wordOf ⟨0x2C, vd.setWidth 4, r, 0, 0, lane⟩ ∧
    encodeWord (.vget r vd lane) = wordOf ⟨0x2D, r, vd.setWidth 4, 0, 0, lane⟩ ∧
    encodeWord (.vbcast vd r) = wordOf ⟨0x2E, vd.setWidth 4, r, 0, 0, 0⟩ ∧
    (lane.toNat < s.params.lanes →
      (∃ l, exec (.vset vd r lane) s = .next ({ s with v := s.v.set vd.toNat l vd.isLt }.answered ⟨0, 0⟩) ∧
        l.length = s.params.lanes ∧ l.getD lane.toNat 0 = s.readX r ∧
        ∀ k, k ≠ lane.toNat → l.getD k 0 = s.readLane vd k) ∧
      exec (.vget r vd lane) s =
        .next ({ s with x := s.x.set r.toNat (s.readLane vd lane.toNat) r.isLt }.answered ⟨0, 0⟩)) ∧
    (s.params.lanes ≤ lane.toNat →
      exec (.vset vd r lane) s = .next (s.faulted 3 (encodeWord (.vset vd r lane))) ∧
      exec (.vget r vd lane) s = .next (s.faulted 3 (encodeWord (.vget r vd lane)))) ∧
    exec (.vbcast vd r) s = .next ({ s with
        v := s.v.set vd.toNat
          (List.replicate s.params.lanes (s.readX r)) vd.isLt }.answered ⟨0, 0⟩)

/-- Reduce61 is the residue modulo 2^61 - 1 of every 128-bit value, reached in at most two folds (44_mod61.md
section 2). The statement is R161, whose count of at most two folds and whose residue stand on the paragraph it
marks as derived from its pseudocode. -/
def Obligations.Reduce61IsTheResidue : Prop :=
  ∀ x : U128, (reduce61 x).toNat = x.toNat % p61 ∧ (reduce61 x).toNat < p61 ∧
    foldLoop61 2 x.toNat < 2 * p61 ∧ ∀ n, 2 ≤ n → foldLoop61 n x.toNat = foldLoop61 2 x.toNat

/-- MulMod61 is the residue modulo 2^61 - 1 of the exact product, for every two 64-bit operands (44_mod61.md section
2). The last sentence of R162, which the spec derives from R161. -/
def Obligations.MulMod61IsTheResidueOfTheProduct : Prop :=
  ∀ a b : U64, (mulMod61 a b).toNat = a.toNat * b.toNat % p61 ∧ (mulMod61 a b).toNat < p61

/-- RED61 and MULMOD61 write the residue of the 128-bit value and of the product; without Backend 61 they are
illegal (44_mod61.md section 2, 44_mod61.md section 3). The statement is R163 and R164, with the residues that
R161 and R162 give for the two functions, the second marked as derived. -/
def Obligations.Backend61CommandsWriteTheResidue : Prop :=
  ∀ (s : State) (d a b : XReg), s.Running →
    encodeWord (.red61 d a b) = wordOf ⟨0x30, d, a, b, 0, 0⟩ ∧
    encodeWord (.mulmod61 d a b) = wordOf ⟨0x31, d, a, b, 0, 0⟩ ∧
    (s.params.has61 = true →
      exec (.red61 d a b) s = .next ({ s with
        x := s.x.set d.toNat
          (BitVec.ofNat 64 (((s.readX b).toNat * 2 ^ 64 + (s.readX a).toNat) % p61)) d.isLt }.answered ⟨0, 0⟩) ∧
      exec (.mulmod61 d a b) s = .next ({ s with
        x := s.x.set d.toNat
          (BitVec.ofNat 64 ((s.readX a).toNat * (s.readX b).toNat % p61)) d.isLt }.answered ⟨0, 0⟩)) ∧
    (s.params.has61 = false →
      exec (.red61 d a b) s = .next (s.faulted 1 (encodeWord (.red61 d a b))) ∧
      exec (.mulmod61 d a b) s = .next (s.faulted 1 (encodeWord (.mulmod61 d a b))))

/-- When Fmar89 returns r, val96(r) is congruent to val96(a)·x + val96(b) modulo 2^89 - 1, with limb 2 bounded
(45_mod89.md section 2). The statement is R183, which the spec derives from R182, whose algorithm it marks as
general knowledge (D16; log 2). -/
def Obligations.FmarIsCongruentToMultiplyAdd : Prop :=
  (∀ (x : U64) (a b r : Limbs), fmar89 x a b = some r →
    r.val96 % p89 = (a.val96 * x.toNat + b.val96) % p89 ∧ r.l2.toNat ≤ b.l2.toNat + 2 ^ 27 + 128) ∧
  ∃ (x : U64) (a b r : Limbs), fmar89 x a b = some r ∧ p89 ≤ r.val96

/-- The bounds on the intermediates of Fmar89, and when LimbOverflow cannot fire (45_mod89.md section 2). The
statement is R184, which the spec derives from R182. -/
def Obligations.FmarBoundsAndOverflow : Prop :=
  ∀ (x : U64) (a b : Limbs),
    (fmarParts x a b).d0 < 2 ^ 40 + 2 ^ 8 ∧ (fmarParts x a b).d2 < 2 ^ 58 ∧
    (fmarParts x a b).d3 ≤ 2 ^ 26 + 2 ^ 7 - 3 ∧ (fmarParts x a b).s0 ≤ 4 * (2 ^ 32 - 1) ∧
    (fmarParts x a b).s0 / 2 ^ 32 ≤ 3 ∧ (fmarParts x a b).s1 < 5 * 2 ^ 32 ∧ (fmarParts x a b).s1 / 2 ^ 32 ≤ 4 ∧
    (fmarParts x a b).s2 ≤ b.l2.toNat + 2 ^ 27 + 128 ∧
    (fmar89 x a b = none → 0xF7FFFF80 ≤ b.l2.toNat) ∧
    (b.Canonical89 → b.l2.toNat < 2 ^ 25) ∧
    (b.l2.toNat < 2 ^ 25 → fmar89 x a b ≠ none ∧
      ∀ r, fmar89 x a b = some r → r.l2.toNat ≤ 2 ^ 25 + 2 ^ 27 + 127 ∧ r.l2.toNat < 2 ^ 28) ∧
    (∀ (y : U64) (c d : Limbs), d.l2.toNat < 2 ^ 25 → fmar89 y c d = some b → fmar89 x a b ≠ none)

/-- FMAR89 writes the Fmar89 result, or raises LimbOverflow writing nothing; without Backend 89 it is illegal
(45_mod89.md section 2, 45_mod89.md section 3). The statement is R186, with the congruence of R183 and the bound
of R184, both of which the spec marks as derived. -/
def Obligations.FmarCommandWritesOrOverflows : Prop :=
  ∀ (s : State) (qd qa qb : QReg) (xs : XReg), s.Running →
    encodeWord (.fmar89 qd xs qa qb) = wordOf ⟨0x38, qd.setWidth 4, xs, qa.setWidth 4, qb.setWidth 4, 0⟩ ∧
    (s.params.has89 = true →
      (∀ r, fmar89 (s.readX xs) (s.readQ qa) (s.readQ qb) = some r →
        exec (.fmar89 qd xs qa qb) s = .next ({ s with q := s.q.set qd.toNat r qd.isLt }.answered ⟨0, 0⟩)) ∧
      (fmar89 (s.readX xs) (s.readQ qa) (s.readQ qb) = none →
        exec (.fmar89 qd xs qa qb) s = .next (s.faulted 6 (encodeWord (.fmar89 qd xs qa qb)))) ∧
      ((s.readQ qb).l2.toNat < 0xF7FFFF80 → ∃ r : Limbs,
        r.val96 % p89 = ((s.readQ qa).val96 * (s.readX xs).toNat + (s.readQ qb).val96) % p89 ∧
        exec (.fmar89 qd xs qa qb) s = .next ({ s with q := s.q.set qd.toNat r qd.isLt }.answered ⟨0, 0⟩))) ∧
    (s.readX xs = 0 ∨ s.readQ qa = ⟨0, 0, 0⟩ →
      fmar89 (s.readX xs) (s.readQ qa) (s.readQ qb) = some (s.readQ qb)) ∧
    fmar89 1 ⟨1, 0, 0⟩ ⟨0, 0, 0⟩ = some ⟨1, 0, 0⟩ ∧
    (s.params.has89 = false →
      exec (.fmar89 qd xs qa qb) s = .next (s.faulted 1 (encodeWord (.fmar89 qd xs qa qb))))

/-- ReduceToScalar89, and so RED89, gives the low 64 bits of the canonical residue, for every triple (45_mod89.md
section 2, 45_mod89.md section 3). The statement is R187, with the result of R185 that the spec marks as
derived. -/
def Obligations.Red89WritesTheLowBitsOfTheResidue : Prop :=
  (∀ r : Limbs, (reduceToScalar89 r).toNat = r.val96 % p89 % 2 ^ 64) ∧
  ∀ (s : State) (d : XReg) (qs : QReg), s.Running →
    encodeWord (.red89 d qs) = wordOf ⟨0x39, d, qs.setWidth 4, 0, 0, 0⟩ ∧
    (s.params.has89 = true → exec (.red89 d qs) s = .next ({ s with
        x := s.x.set d.toNat
          (BitVec.ofNat 64 ((s.readQ qs).val96 % p89)) d.isLt }.answered ⟨0, 0⟩)) ∧
    (s.params.has89 = false → exec (.red89 d qs) s = .next (s.faulted 1 (encodeWord (.red89 d qs))))

/-- PEVAL under Backend 61 writes the polynomial of the coefficient set at the key modulo 2^61 - 1 (46_poly.md
section 2, 46_poly.md section 3). The statement is R206, with the result of R203 that the spec marks as derived. -/
def Obligations.Peval61IsThePolynomial : Prop :=
  ∀ (s : State) (d k : XReg), s.Running → s.cfgK ≠ 0 → s.cfgBk = .b61 →
    exec (.peval d k) s = .next ({ s with
        x := s.x.set d.toNat (BitVec.ofNat 64
          ((∑ i ∈ Finset.range s.cfgK.toNat, ((s.readC i).l0.toNat + (s.readC i).l1.toNat * 2 ^ 32) *
          (s.readX k).toNat ^ i) % p61)) d.isLt }.answered ⟨0, 0⟩)

/-- PEVAL under Backend 89 writes the low 64 bits of the polynomial modulo 2^89 - 1, or raises LimbOverflow
(46_poly.md section 2, 46_poly.md section 3). The statement is R206, with the results of R204 that the spec
marks as derived. -/
def Obligations.Peval89IsThePolynomialOrOverflows : Prop :=
  ∀ (s : State) (d k : XReg), s.Running → s.cfgK ≠ 0 → s.cfgBk = .b89 →
    exec (.peval d k) s = .next ({ s with
        x := s.x.set d.toNat (BitVec.ofNat 64
          ((∑ i ∈ Finset.range s.cfgK.toNat, (s.readC i).val96 * (s.readX k).toNat ^ i) % p89))
          d.isLt }.answered ⟨0, 0⟩) ∨
    ((∃ i, i + 1 < s.cfgK.toNat ∧ 0xF7FFFF80 ≤ (s.readC i).l2.toNat) ∧
      exec (.peval d k) s = .next (s.faulted 6 (encodeWord (.peval d k))))

/-- PEVAL and CGEN raise Config while CFG.K is 0, under either backend (46_poly.md section 3, 60_exceptions.md
section 1). -/
def Obligations.NoInstanceIsAConfigFault : Prop :=
  ∀ (s : State) (d k : XReg), s.Running → s.cfgK = 0 →
    encodeWord (.peval d k) = wordOf ⟨0x40, d, k, 0, 0, 0⟩ ∧
    exec (.peval d k) s = .next (s.faulted 5 (encodeWord (.peval d k))) ∧
    encodeWord .cgen = 0x41000000 ∧ exec .cgen s = .next (s.faulted 5 0x41000000)

/-- CGEN fills entries 0 to K-1 from the generator's draws for the backend and advances STATE by 2K or 3K (R207). -/
def Obligations.CgenDrawsTheCoefficientSet : Prop :=
  ∀ s : State, s.Running → s.cfgK ≠ 0 → s.coef.wf s.params.kmax →
    ∃ t, exec .cgen s = .next t ∧
      t = { s with prngState := t.prngState, coef := t.coef }.answered ⟨0, 0⟩ ∧
      (∀ i, s.cfgK.toNat ≤ i → t.readC i = s.readC i) ∧
      (s.cfgBk = .b61 →
        t.prngState = prngAfter s.prngInc (2 * s.cfgK.toNat) s.prngState ∧
        ∀ i, i < s.cfgK.toNat → (t.readC i).l2 = 0 ∧
          (t.readC i).val96 = ((s.drawNumber (2 * i)).toNat * 2 ^ 32 + (s.drawNumber (2 * i + 1)).toNat) % p61) ∧
      (s.cfgBk = .b89 →
        t.prngState = prngAfter s.prngInc (3 * s.cfgK.toNat) s.prngState ∧
        ∀ i, i < s.cfgK.toNat →
          t.readC i = ⟨s.drawNumber (3 * i), s.drawNumber (3 * i + 1), s.drawNumber (3 * i + 2) &&& 0x01FFFFFF⟩)

/-- After CGEN the coefficients are in range and PEVAL completes for every key (46_poly.md section 3, 46_poly.md
section 2). -/
def Obligations.GeneratedCoefficientsNeverOverflow : Prop :=
  ∀ (s : State) (d k : XReg), s.Running → s.cfgK ≠ 0 → s.coef.wf s.params.kmax →
    ∃ t u, exec .cgen s = .next t ∧ exec (.peval d k) t = .next u ∧ u.Running ∧
      ∀ i, i < s.cfgK.toNat →
        (s.cfgBk = .b61 → (t.readC i).val96 < p61) ∧
        (s.cfgBk = .b89 → (t.readC i).l2.toNat < 2 ^ 25 ∧ (t.readC i).val96 ≤ p89)

/-- CSET writes one whole coefficient entry, CGET reads one; an index not below KMAX raises IndexRange (R208, R209). -/
def Obligations.CsetWritesOneEntryCgetReadsOne : Prop :=
  ∀ (s : State) (idx : Imm) (r : QReg), s.Running → s.coef.wf s.params.kmax →
    encodeWord (.cset idx r) = wordOf ⟨0x42, 0, r.setWidth 4, 0, 0, idx⟩ ∧
    encodeWord (.cget r idx) = wordOf ⟨0x43, r.setWidth 4, 0, 0, 0, idx⟩ ∧
    (idx.toNat < s.params.kmax →
      (∃ t, exec (.cset idx r) s = .next t ∧ t = { s with coef := t.coef }.answered ⟨0, 0⟩ ∧
        t.readC idx.toNat = s.readQ r ∧ ∀ j, j ≠ idx.toNat → t.readC j = s.readC j) ∧
      exec (.cget r idx) s =
        .next ({ s with q := s.q.set r.toNat (s.readC idx.toNat) r.isLt }.answered ⟨0, 0⟩)) ∧
    (s.params.kmax ≤ idx.toNat →
      exec (.cset idx r) s = .next (s.faulted 3 (encodeWord (.cset idx r))) ∧
      exec (.cget r idx) s = .next (s.faulted 3 (encodeWord (.cget r idx))))

/-- A well-formed VPEVAL always raises Unsupported and writes no vector register (R210). -/
def Obligations.VpevalAlwaysRaisesUnsupported : Prop :=
  ∀ (s : State) (d r : VReg), s.Running →
    encodeWord (.vpeval d r) = wordOf ⟨0x48, d.setWidth 4, r.setWidth 4, 0, 0, 0⟩ ∧
    exec (.vpeval d r) s = .next (s.faulted 2 (encodeWord (.vpeval d r)))

/-- PEVAL reads CFG, the coefficients below K and its key, and writes its destination register only (46_poly.md
section 2). -/
def Obligations.PevalIsAFunctionOfTheInstance : Prop :=
  ∀ (s1 s2 : State) (d k : XReg), s1.Running → s2.Running → s1.cfgK = s2.cfgK → s1.cfgBk = s2.cfgBk →
    (∀ i, i < s1.cfgK.toNat → s1.readC i = s2.readC i) → s1.readX k = s2.readX k →
    ∃ t1 t2, exec (.peval d k) s1 = .next t1 ∧ exec (.peval d k) s2 = .next t2 ∧ t1.rsp = t2.rsp ∧
      t1.fault = t2.fault ∧
      (t1.Running → t1.readX d = t2.readX d ∧
        t1 = { s1 with x := s1.x.set d.toNat (t1.readX d) d.isLt }.answered ⟨0, 0⟩)

/-- Two instances built from the same (k, backend, seed, selector) hash every key alike, whatever the block held
before (46_poly.md section 2, 70_reset_and_hazards.md section 3). -/
def Obligations.ConstructionIsDeterministic : Prop :=
  ∀ (s1 s2 : State) (rc ra rb rk d : XReg), s1.Running → s2.Running → s1.params = s2.params →
    s1.params.wf = true → s1.readX rc = s2.readX rc → s1.readX ra = s2.readX ra → s1.readX rb = s2.readX rb →
    s1.readX rk = s2.readX rk → cfgLegal s1.params (s1.readX rc) = true → (s1.readX rc).toNat % 2 ^ 8 ≠ 0 →
    ∃ t1 t2, execAll [.cwr 1 rc, .pseed ra rb, .cgen, .peval d rk] s1 = .next t1 ∧
      execAll [.cwr 1 rc, .pseed ra rb, .cgen, .peval d rk] s2 = .next t2 ∧
      t1.Running ∧ t2.Running ∧ t1.readX d = t2.readX d
end

