-- ==== Sys2Proof/Laws/Decode.lean ====
section
/-! SUPPORT. Laws/Decode.lean: a word and its six fields are the same thing (30_encoding R72), and masks act field by
field, so that everything about words is said about fields. -/

namespace Sys2Proof

/-- The fields of the word with given fields are those fields. -/
@[simp] theorem fieldsOf_wordOf (f : Fields) : fieldsOf (wordOf f) = f := by
  obtain ⟨o, rd, r1, r2, r3, im⟩ := f
  simp only [fieldsOf, wordOf, Fields.mk.injEq]
  refine ⟨?_, ?_, ?_, ?_, ?_, ?_⟩ <;>
  · apply BitVec.eq_of_getLsbD_eq
    intro i hi
    simp only [BitVec.getLsbD_extractLsb', BitVec.getLsbD_append, hi, decide_true, Bool.true_and]
    (repeat' split) <;> first | omega | (congr 1; omega)

/-- The word with the fields of a word is that word. -/
@[simp] theorem wordOf_fieldsOf (w : U32) : wordOf (fieldsOf w) = w := by
  apply BitVec.eq_of_getLsbD_eq
  intro i hi
  simp only [fieldsOf, wordOf, BitVec.getLsbD_extractLsb', BitVec.getLsbD_append]
  (repeat' split) <;>
  · rw [decide_eq_true (by omega), Bool.true_and]
    congr 1
    omega

/-- Two words are equal exactly when their fields are. -/
theorem wordOf_inj {f g : Fields} : wordOf f = wordOf g ↔ f = g :=
  ⟨fun h => by simpa using congrArg fieldsOf h, congrArg wordOf⟩

/-- Fields under a mask, field by field. -/
def fieldsAnd (f g : Fields) : Fields :=
  ⟨f.opcode &&& g.opcode, f.rd &&& g.rd, f.rs1 &&& g.rs1, f.rs2 &&& g.rs2, f.rs3 &&& g.rs3, f.imm &&& g.imm⟩

/-- A mask acts field by field. -/
theorem wordOf_and (f g : Fields) : wordOf f &&& wordOf g = wordOf (fieldsAnd f g) := by
  simp only [wordOf, fieldsAnd]
  rw [BitVec.and_append, BitVec.and_append, BitVec.and_append, BitVec.and_append, BitVec.and_append]

/-- A word with given fields matches a row exactly when the fields under the row's mask are the row's pattern. -/
theorem row_matches_wordOf (r : OpcodeRow) (f : Fields) :
    r.matches (wordOf f) = true ↔ fieldsAnd f (fieldsOf r.mask) = fieldsOf r.pattern := by
  rw [OpcodeRow.matches, beq_iff_eq, ← wordOf_inj, ← wordOf_and, wordOf_fieldsOf, wordOf_fieldsOf]

/-- A 2-bit specifier in a 4-bit field has its high two bits 0 (30_encoding R73). -/
@[simp] theorem spec_high_bits (v : BitVec 2) : v.setWidth 4 &&& 0xC#4 = 0#4 := by
  revert v
  decide

/-- A 2-bit specifier in a 4-bit field is below 4. -/
@[simp] theorem spec_lt (v : BitVec 2) : (v.setWidth 4).toNat < 4 := by
  revert v
  decide

/-- A 2-bit specifier is read back from its 4-bit field. -/
@[simp] theorem spec_back (v : BitVec 2) : (v.setWidth 4).setWidth 2 = v := by
  revert v
  decide

/-- The specifier in a 4-bit field below 4 is read back and written again. -/
theorem spec_forth (f : BitVec 4) (h : f.toNat < 4) : (f.setWidth 2).setWidth 4 = f := by
  revert f
  decide

end Sys2Proof
end

