-- ==== Sys2Proof/Laws/Memory.lean ====
section
/-! SUPPORT. Laws/Memory.lean: read after write on the coefficient memory, and every memory operation keeps the canonical
form (20_memory R50, R52, R58). -/

namespace Sys2Proof.Machine

/-- The empty memory is canonical. -/
theorem Memory.cleared_wf (n : Nat) : Memory.wf n Memory.cleared := by
  simp [Memory.wf, Memory.cleared]

/-- A cleared memory reads `(0, 0, 0)` everywhere. -/
@[simp] theorem Memory.read_cleared (i : Nat) : Memory.read Memory.cleared i = Limbs.zero := rfl

/-- The tail of a canonical memory is canonical. -/
theorem Memory.wf_tail {n : Nat} {c : Nat × Limbs} {m : Memory} (h : Memory.wf n (c :: m)) : Memory.wf n m := by
  obtain ⟨hp, hz⟩ := h
  exact ⟨(List.pairwise_cons.mp hp).2, fun d hd => hz d (List.mem_cons_of_mem _ hd)⟩

/-- The indices after the head of a canonical memory are above it. -/
theorem Memory.lt_of_wf_cons {n j : Nat} {u : Limbs} {m : Memory} (h : Memory.wf n ((j, u) :: m)) :
    ∀ c ∈ m, j < c.1 := by
  intro c hc
  exact (List.pairwise_cons.mp h.1).1 c.1 (List.mem_map_of_mem hc)

/-- An index below every listed one reads `(0, 0, 0)`. -/
theorem Memory.read_of_lt {m : Memory} {i : Nat} (h : ∀ c ∈ m, i < c.1) : Memory.read m i = Limbs.zero := by
  induction m with
  | nil => rfl
  | cons c m ih =>
    obtain ⟨j, u⟩ := c
    have hj : i < j := h (j, u) (List.mem_cons_self ..)
    simp only [Memory.read, if_neg (Nat.ne_of_gt hj)]
    exact ih fun d hd => h d (List.mem_cons_of_mem _ hd)

/-- An entry that was written reads the triple written. -/
theorem Memory.read_write_same {n : Nat} {m : Memory} (h : Memory.wf n m) (i : Nat) (t : Limbs) :
    Memory.read (Memory.write m i t) i = t := by
  induction m with
  | nil => by_cases ht : t = Limbs.zero <;> simp [Memory.write, Memory.read, ht]
  | cons c m ih =>
    obtain ⟨j, u⟩ := c
    have habove := Memory.lt_of_wf_cons h
    by_cases hlt : i < j
    · have hbelow : ∀ d ∈ (j, u) :: m, i < d.1 := by
        intro d hd
        rcases List.mem_cons.mp hd with rfl | hd
        · exact hlt
        · exact Nat.lt_trans hlt (habove d hd)
      by_cases ht : t = Limbs.zero
      · simp only [Memory.write, if_pos hlt, if_pos ht]
        exact (Memory.read_of_lt hbelow).trans ht.symm
      · simp [Memory.write, if_pos hlt, if_neg ht, Memory.read]
    · by_cases hij : i = j
      · subst hij
        by_cases ht : t = Limbs.zero
        · simp only [Memory.write, if_neg hlt, if_pos ht, if_true]
          exact (Memory.read_of_lt habove).trans ht.symm
        · simp [Memory.write, ht, Memory.read]
      · simp only [Memory.write, if_neg hlt, if_neg hij, Memory.read, if_neg (Ne.symm hij)]
        exact ih (Memory.wf_tail h)

/-- A write of one entry leaves every other entry alone. -/
theorem Memory.read_write_of_ne (m : Memory) {i k : Nat} (hk : k ≠ i) (t : Limbs) :
    Memory.read (Memory.write m i t) k = Memory.read m k := by
  have hik : ¬ i = k := Ne.symm hk
  induction m with
  | nil => by_cases ht : t = Limbs.zero <;> simp [Memory.write, Memory.read, ht, hik]
  | cons c m ih =>
    obtain ⟨j, u⟩ := c
    by_cases hlt : i < j
    · by_cases ht : t = Limbs.zero <;> simp [Memory.write, hlt, ht, Memory.read, hik]
    · by_cases hij : i = j
      · subst hij
        by_cases ht : t = Limbs.zero <;> simp [Memory.write, ht, Memory.read, hik]
      · simp only [Memory.write, if_neg hlt, if_neg hij, Memory.read]
        rw [ih]

/-- Every entry a write leaves listed was listed before or is the one written. -/
theorem Memory.mem_write {m : Memory} {i : Nat} {t : Limbs} {c : Nat × Limbs} (h : c ∈ Memory.write m i t) :
    c ∈ m ∨ (c = (i, t) ∧ t ≠ Limbs.zero) := by
  induction m with
  | nil =>
    by_cases ht : t = Limbs.zero <;> simp [Memory.write, ht] at h
    exact .inr ⟨h, ht⟩
  | cons d m ih =>
    obtain ⟨j, u⟩ := d
    by_cases hlt : i < j
    · by_cases ht : t = Limbs.zero <;> simp only [Memory.write, if_pos hlt, ht, if_true, if_false] at h
      · exact .inl h
      · rcases List.mem_cons.mp h with h | h
        · exact .inr ⟨h, ht⟩
        · exact .inl h
    · by_cases hij : i = j
      · by_cases ht : t = Limbs.zero <;> simp only [Memory.write, if_neg hlt, if_pos hij, ht, if_true, if_false] at h
        · exact .inl (List.mem_cons_of_mem _ h)
        · rcases List.mem_cons.mp h with h | h
          · exact .inr ⟨h, ht⟩
          · exact .inl (List.mem_cons_of_mem _ h)
      · simp only [Memory.write, if_neg hlt, if_neg hij] at h
        rcases List.mem_cons.mp h with rfl | h
        · exact .inl (List.mem_cons_self ..)
        · exact (ih h).imp (List.mem_cons_of_mem _) id

/-- A write below `n` keeps the canonical form. -/
theorem Memory.write_wf {n : Nat} {m : Memory} (h : Memory.wf n m) {i : Nat} (hi : i < n) (t : Limbs) :
    Memory.wf n (Memory.write m i t) := by
  refine ⟨?_, fun c hc => ?_⟩
  · induction m with
    | nil => by_cases ht : t = Limbs.zero <;> simp [Memory.write, ht]
    | cons d m ih =>
      obtain ⟨j, u⟩ := d
      have habove := Memory.lt_of_wf_cons h
      have hsorted := List.pairwise_cons.mp h.1
      by_cases hlt : i < j
      · by_cases ht : t = Limbs.zero
        · simpa only [Memory.write, if_pos hlt, if_pos ht] using h.1
        · simp only [Memory.write, if_pos hlt, if_neg ht]
          refine List.pairwise_cons.mpr ⟨fun k hk => ?_, h.1⟩
          obtain ⟨d, hd, rfl⟩ := List.mem_map.mp hk
          rcases List.mem_cons.mp hd with rfl | hd
          · exact hlt
          · exact Nat.lt_trans hlt (habove d hd)
      · by_cases hij : i = j
        · subst hij
          by_cases ht : t = Limbs.zero
          · simpa only [Memory.write, if_neg hlt, if_pos ht, if_true] using hsorted.2
          · simp only [Memory.write, if_neg hlt, if_neg ht, if_true]
            exact h.1
        · simp only [Memory.write, if_neg hlt, if_neg hij]
          refine List.pairwise_cons.mpr ⟨fun k hk => ?_, ih (Memory.wf_tail h)⟩
          obtain ⟨d, hd, rfl⟩ := List.mem_map.mp hk
          rcases Memory.mem_write hd with hd | ⟨rfl, _⟩
          · exact habove d hd
          · show j < i
            omega
  · rcases Memory.mem_write hc with hc | ⟨rfl, ht⟩
    · exact h.2 c hc
    · exact ⟨ht, hi⟩

end Sys2Proof.Machine
end

