-- ==== Sys2Proof/Laws/State.lean ====
section
/-! SUPPORT. Laws/State.lean: what each update of the state does to each field, true by unfolding the update once, and the
reads of a register file after a write to it. -/

namespace Sys2Proof.Machine

variable (s : State)

@[simp] theorem State.writeX_params (r : XReg) (w : U64) : (s.writeX r w).params = s.params := rfl
@[simp] theorem State.writeX_x (r : XReg) (w : U64) : (s.writeX r w).x = s.x.set r.toNat w r.isLt := rfl
@[simp] theorem State.writeX_q (r : XReg) (w : U64) : (s.writeX r w).q = s.q := rfl
@[simp] theorem State.writeX_v (r : XReg) (w : U64) : (s.writeX r w).v = s.v := rfl
@[simp] theorem State.writeX_prngState (r : XReg) (w : U64) : (s.writeX r w).prngState = s.prngState := rfl
@[simp] theorem State.writeX_prngInc (r : XReg) (w : U64) : (s.writeX r w).prngInc = s.prngInc := rfl
@[simp] theorem State.writeX_cfgK (r : XReg) (w : U64) : (s.writeX r w).cfgK = s.cfgK := rfl
@[simp] theorem State.writeX_cfgBk (r : XReg) (w : U64) : (s.writeX r w).cfgBk = s.cfgBk := rfl
@[simp] theorem State.writeX_coef (r : XReg) (w : U64) : (s.writeX r w).coef = s.coef := rfl
@[simp] theorem State.writeX_fault (r : XReg) (w : U64) : (s.writeX r w).fault = s.fault := rfl
@[simp] theorem State.writeX_fcause (r : XReg) (w : U64) : (s.writeX r w).fcause = s.fcause := rfl
@[simp] theorem State.writeX_fcmd (r : XReg) (w : U64) : (s.writeX r w).fcmd = s.fcmd := rfl
@[simp] theorem State.writeX_inputs (r : XReg) (w : U64) : (s.writeX r w).inputs = s.inputs := rfl
@[simp] theorem State.writeX_rsp (r : XReg) (w : U64) : (s.writeX r w).rsp = s.rsp := rfl
@[simp] theorem State.writeX_responses (r : XReg) (w : U64) : (s.writeX r w).responses = s.responses := rfl

@[simp] theorem State.writeQ_params (r : QReg) (t : Limbs) : (s.writeQ r t).params = s.params := rfl
@[simp] theorem State.writeQ_x (r : QReg) (t : Limbs) : (s.writeQ r t).x = s.x := rfl
@[simp] theorem State.writeQ_q (r : QReg) (t : Limbs) : (s.writeQ r t).q = s.q.set r.toNat t r.isLt := rfl
@[simp] theorem State.writeQ_v (r : QReg) (t : Limbs) : (s.writeQ r t).v = s.v := rfl
@[simp] theorem State.writeQ_prngState (r : QReg) (t : Limbs) : (s.writeQ r t).prngState = s.prngState := rfl
@[simp] theorem State.writeQ_prngInc (r : QReg) (t : Limbs) : (s.writeQ r t).prngInc = s.prngInc := rfl
@[simp] theorem State.writeQ_cfgK (r : QReg) (t : Limbs) : (s.writeQ r t).cfgK = s.cfgK := rfl
@[simp] theorem State.writeQ_cfgBk (r : QReg) (t : Limbs) : (s.writeQ r t).cfgBk = s.cfgBk := rfl
@[simp] theorem State.writeQ_coef (r : QReg) (t : Limbs) : (s.writeQ r t).coef = s.coef := rfl
@[simp] theorem State.writeQ_fault (r : QReg) (t : Limbs) : (s.writeQ r t).fault = s.fault := rfl
@[simp] theorem State.writeQ_fcause (r : QReg) (t : Limbs) : (s.writeQ r t).fcause = s.fcause := rfl
@[simp] theorem State.writeQ_fcmd (r : QReg) (t : Limbs) : (s.writeQ r t).fcmd = s.fcmd := rfl
@[simp] theorem State.writeQ_inputs (r : QReg) (t : Limbs) : (s.writeQ r t).inputs = s.inputs := rfl
@[simp] theorem State.writeQ_rsp (r : QReg) (t : Limbs) : (s.writeQ r t).rsp = s.rsp := rfl
@[simp] theorem State.writeQ_responses (r : QReg) (t : Limbs) : (s.writeQ r t).responses = s.responses := rfl

@[simp] theorem State.writeV_params (r : VReg) (l : List U64) : (s.writeV r l).params = s.params := rfl
@[simp] theorem State.writeV_x (r : VReg) (l : List U64) : (s.writeV r l).x = s.x := rfl
@[simp] theorem State.writeV_q (r : VReg) (l : List U64) : (s.writeV r l).q = s.q := rfl
@[simp] theorem State.writeV_v (r : VReg) (l : List U64) : (s.writeV r l).v = s.v.set r.toNat l r.isLt := rfl
@[simp] theorem State.writeV_prngState (r : VReg) (l : List U64) : (s.writeV r l).prngState = s.prngState := rfl
@[simp] theorem State.writeV_prngInc (r : VReg) (l : List U64) : (s.writeV r l).prngInc = s.prngInc := rfl
@[simp] theorem State.writeV_cfgK (r : VReg) (l : List U64) : (s.writeV r l).cfgK = s.cfgK := rfl
@[simp] theorem State.writeV_cfgBk (r : VReg) (l : List U64) : (s.writeV r l).cfgBk = s.cfgBk := rfl
@[simp] theorem State.writeV_coef (r : VReg) (l : List U64) : (s.writeV r l).coef = s.coef := rfl
@[simp] theorem State.writeV_fault (r : VReg) (l : List U64) : (s.writeV r l).fault = s.fault := rfl
@[simp] theorem State.writeV_fcause (r : VReg) (l : List U64) : (s.writeV r l).fcause = s.fcause := rfl
@[simp] theorem State.writeV_fcmd (r : VReg) (l : List U64) : (s.writeV r l).fcmd = s.fcmd := rfl
@[simp] theorem State.writeV_inputs (r : VReg) (l : List U64) : (s.writeV r l).inputs = s.inputs := rfl
@[simp] theorem State.writeV_rsp (r : VReg) (l : List U64) : (s.writeV r l).rsp = s.rsp := rfl
@[simp] theorem State.writeV_responses (r : VReg) (l : List U64) : (s.writeV r l).responses = s.responses := rfl

@[simp] theorem State.writeLane_params (r : VReg) (j : Nat) (w : U64) : (s.writeLane r j w).params = s.params := rfl
@[simp] theorem State.writeLane_x (r : VReg) (j : Nat) (w : U64) : (s.writeLane r j w).x = s.x := rfl
@[simp] theorem State.writeLane_q (r : VReg) (j : Nat) (w : U64) : (s.writeLane r j w).q = s.q := rfl
@[simp] theorem State.writeLane_v (r : VReg) (j : Nat) (w : U64) : (s.writeLane r j w).v = s.v.set r.toNat ((s.readV r).set j w) r.isLt :=
  rfl
@[simp] theorem State.writeLane_prngState (r : VReg) (j : Nat) (w : U64) : (s.writeLane r j w).prngState = s.prngState :=
  rfl
@[simp] theorem State.writeLane_prngInc (r : VReg) (j : Nat) (w : U64) : (s.writeLane r j w).prngInc = s.prngInc :=
  rfl
@[simp] theorem State.writeLane_cfgK (r : VReg) (j : Nat) (w : U64) : (s.writeLane r j w).cfgK = s.cfgK := rfl
@[simp] theorem State.writeLane_cfgBk (r : VReg) (j : Nat) (w : U64) : (s.writeLane r j w).cfgBk = s.cfgBk := rfl
@[simp] theorem State.writeLane_coef (r : VReg) (j : Nat) (w : U64) : (s.writeLane r j w).coef = s.coef := rfl
@[simp] theorem State.writeLane_fault (r : VReg) (j : Nat) (w : U64) : (s.writeLane r j w).fault = s.fault := rfl
@[simp] theorem State.writeLane_fcause (r : VReg) (j : Nat) (w : U64) : (s.writeLane r j w).fcause = s.fcause := rfl
@[simp] theorem State.writeLane_fcmd (r : VReg) (j : Nat) (w : U64) : (s.writeLane r j w).fcmd = s.fcmd := rfl
@[simp] theorem State.writeLane_inputs (r : VReg) (j : Nat) (w : U64) : (s.writeLane r j w).inputs = s.inputs := rfl
@[simp] theorem State.writeLane_rsp (r : VReg) (j : Nat) (w : U64) : (s.writeLane r j w).rsp = s.rsp := rfl
@[simp] theorem State.writeLane_responses (r : VReg) (j : Nat) (w : U64) : (s.writeLane r j w).responses = s.responses :=
  rfl

@[simp] theorem State.writeC_params (i : Nat) (t : Limbs) : (s.writeC i t).params = s.params := rfl
@[simp] theorem State.writeC_x (i : Nat) (t : Limbs) : (s.writeC i t).x = s.x := rfl
@[simp] theorem State.writeC_q (i : Nat) (t : Limbs) : (s.writeC i t).q = s.q := rfl
@[simp] theorem State.writeC_v (i : Nat) (t : Limbs) : (s.writeC i t).v = s.v := rfl
@[simp] theorem State.writeC_prngState (i : Nat) (t : Limbs) : (s.writeC i t).prngState = s.prngState := rfl
@[simp] theorem State.writeC_prngInc (i : Nat) (t : Limbs) : (s.writeC i t).prngInc = s.prngInc := rfl
@[simp] theorem State.writeC_cfgK (i : Nat) (t : Limbs) : (s.writeC i t).cfgK = s.cfgK := rfl
@[simp] theorem State.writeC_cfgBk (i : Nat) (t : Limbs) : (s.writeC i t).cfgBk = s.cfgBk := rfl
@[simp] theorem State.writeC_coef (i : Nat) (t : Limbs) : (s.writeC i t).coef = s.coef.write i t := rfl
@[simp] theorem State.writeC_fault (i : Nat) (t : Limbs) : (s.writeC i t).fault = s.fault := rfl
@[simp] theorem State.writeC_fcause (i : Nat) (t : Limbs) : (s.writeC i t).fcause = s.fcause := rfl
@[simp] theorem State.writeC_fcmd (i : Nat) (t : Limbs) : (s.writeC i t).fcmd = s.fcmd := rfl
@[simp] theorem State.writeC_inputs (i : Nat) (t : Limbs) : (s.writeC i t).inputs = s.inputs := rfl
@[simp] theorem State.writeC_rsp (i : Nat) (t : Limbs) : (s.writeC i t).rsp = s.rsp := rfl
@[simp] theorem State.writeC_responses (i : Nat) (t : Limbs) : (s.writeC i t).responses = s.responses := rfl

@[simp] theorem State.clearC_params : (s.clearC).params = s.params := rfl
@[simp] theorem State.clearC_x : (s.clearC).x = s.x := rfl
@[simp] theorem State.clearC_q : (s.clearC).q = s.q := rfl
@[simp] theorem State.clearC_v : (s.clearC).v = s.v := rfl
@[simp] theorem State.clearC_prngState : (s.clearC).prngState = s.prngState := rfl
@[simp] theorem State.clearC_prngInc : (s.clearC).prngInc = s.prngInc := rfl
@[simp] theorem State.clearC_cfgK : (s.clearC).cfgK = s.cfgK := rfl
@[simp] theorem State.clearC_cfgBk : (s.clearC).cfgBk = s.cfgBk := rfl
@[simp] theorem State.clearC_coef : (s.clearC).coef = [] := rfl
@[simp] theorem State.clearC_fault : (s.clearC).fault = s.fault := rfl
@[simp] theorem State.clearC_fcause : (s.clearC).fcause = s.fcause := rfl
@[simp] theorem State.clearC_fcmd : (s.clearC).fcmd = s.fcmd := rfl
@[simp] theorem State.clearC_inputs : (s.clearC).inputs = s.inputs := rfl
@[simp] theorem State.clearC_rsp : (s.clearC).rsp = s.rsp := rfl
@[simp] theorem State.clearC_responses : (s.clearC).responses = s.responses := rfl

@[simp] theorem State.writePrngState_params (w : U64) : (s.writePrngState w).params = s.params := rfl
@[simp] theorem State.writePrngState_x (w : U64) : (s.writePrngState w).x = s.x := rfl
@[simp] theorem State.writePrngState_q (w : U64) : (s.writePrngState w).q = s.q := rfl
@[simp] theorem State.writePrngState_v (w : U64) : (s.writePrngState w).v = s.v := rfl
@[simp] theorem State.writePrngState_prngState (w : U64) : (s.writePrngState w).prngState = w := rfl
@[simp] theorem State.writePrngState_prngInc (w : U64) : (s.writePrngState w).prngInc = s.prngInc := rfl
@[simp] theorem State.writePrngState_cfgK (w : U64) : (s.writePrngState w).cfgK = s.cfgK := rfl
@[simp] theorem State.writePrngState_cfgBk (w : U64) : (s.writePrngState w).cfgBk = s.cfgBk := rfl
@[simp] theorem State.writePrngState_coef (w : U64) : (s.writePrngState w).coef = s.coef := rfl
@[simp] theorem State.writePrngState_fault (w : U64) : (s.writePrngState w).fault = s.fault := rfl
@[simp] theorem State.writePrngState_fcause (w : U64) : (s.writePrngState w).fcause = s.fcause := rfl
@[simp] theorem State.writePrngState_fcmd (w : U64) : (s.writePrngState w).fcmd = s.fcmd := rfl
@[simp] theorem State.writePrngState_inputs (w : U64) : (s.writePrngState w).inputs = s.inputs := rfl
@[simp] theorem State.writePrngState_rsp (w : U64) : (s.writePrngState w).rsp = s.rsp := rfl
@[simp] theorem State.writePrngState_responses (w : U64) : (s.writePrngState w).responses = s.responses := rfl

@[simp] theorem State.writeInc_params (w : U64) : (s.writeInc w).params = s.params := rfl
@[simp] theorem State.writeInc_x (w : U64) : (s.writeInc w).x = s.x := rfl
@[simp] theorem State.writeInc_q (w : U64) : (s.writeInc w).q = s.q := rfl
@[simp] theorem State.writeInc_v (w : U64) : (s.writeInc w).v = s.v := rfl
@[simp] theorem State.writeInc_prngState (w : U64) : (s.writeInc w).prngState = s.prngState := rfl
@[simp] theorem State.writeInc_prngInc (w : U64) : (s.writeInc w).prngInc = w ||| 1 := rfl
@[simp] theorem State.writeInc_cfgK (w : U64) : (s.writeInc w).cfgK = s.cfgK := rfl
@[simp] theorem State.writeInc_cfgBk (w : U64) : (s.writeInc w).cfgBk = s.cfgBk := rfl
@[simp] theorem State.writeInc_coef (w : U64) : (s.writeInc w).coef = s.coef := rfl
@[simp] theorem State.writeInc_fault (w : U64) : (s.writeInc w).fault = s.fault := rfl
@[simp] theorem State.writeInc_fcause (w : U64) : (s.writeInc w).fcause = s.fcause := rfl
@[simp] theorem State.writeInc_fcmd (w : U64) : (s.writeInc w).fcmd = s.fcmd := rfl
@[simp] theorem State.writeInc_inputs (w : U64) : (s.writeInc w).inputs = s.inputs := rfl
@[simp] theorem State.writeInc_rsp (w : U64) : (s.writeInc w).rsp = s.rsp := rfl
@[simp] theorem State.writeInc_responses (w : U64) : (s.writeInc w).responses = s.responses := rfl

@[simp] theorem State.writeCfg_params (w : U64) : (s.writeCfg w).params = s.params := rfl
@[simp] theorem State.writeCfg_x (w : U64) : (s.writeCfg w).x = s.x := rfl
@[simp] theorem State.writeCfg_q (w : U64) : (s.writeCfg w).q = s.q := rfl
@[simp] theorem State.writeCfg_v (w : U64) : (s.writeCfg w).v = s.v := rfl
@[simp] theorem State.writeCfg_prngState (w : U64) : (s.writeCfg w).prngState = s.prngState := rfl
@[simp] theorem State.writeCfg_prngInc (w : U64) : (s.writeCfg w).prngInc = s.prngInc := rfl
@[simp] theorem State.writeCfg_cfgK (w : U64) : (s.writeCfg w).cfgK = cfgKOf w := rfl
@[simp] theorem State.writeCfg_cfgBk (w : U64) : (s.writeCfg w).cfgBk = cfgBkOf w := rfl
@[simp] theorem State.writeCfg_coef (w : U64) : (s.writeCfg w).coef = [] := rfl
@[simp] theorem State.writeCfg_fault (w : U64) : (s.writeCfg w).fault = s.fault := rfl
@[simp] theorem State.writeCfg_fcause (w : U64) : (s.writeCfg w).fcause = s.fcause := rfl
@[simp] theorem State.writeCfg_fcmd (w : U64) : (s.writeCfg w).fcmd = s.fcmd := rfl
@[simp] theorem State.writeCfg_inputs (w : U64) : (s.writeCfg w).inputs = s.inputs := rfl
@[simp] theorem State.writeCfg_rsp (w : U64) : (s.writeCfg w).rsp = s.rsp := rfl
@[simp] theorem State.writeCfg_responses (w : U64) : (s.writeCfg w).responses = s.responses := rfl

@[simp] theorem State.setLatch_params (c : Cause) (w : U32) : (s.setLatch c w).params = s.params := rfl
@[simp] theorem State.setLatch_x (c : Cause) (w : U32) : (s.setLatch c w).x = s.x := rfl
@[simp] theorem State.setLatch_q (c : Cause) (w : U32) : (s.setLatch c w).q = s.q := rfl
@[simp] theorem State.setLatch_v (c : Cause) (w : U32) : (s.setLatch c w).v = s.v := rfl
@[simp] theorem State.setLatch_prngState (c : Cause) (w : U32) : (s.setLatch c w).prngState = s.prngState := rfl
@[simp] theorem State.setLatch_prngInc (c : Cause) (w : U32) : (s.setLatch c w).prngInc = s.prngInc := rfl
@[simp] theorem State.setLatch_cfgK (c : Cause) (w : U32) : (s.setLatch c w).cfgK = s.cfgK := rfl
@[simp] theorem State.setLatch_cfgBk (c : Cause) (w : U32) : (s.setLatch c w).cfgBk = s.cfgBk := rfl
@[simp] theorem State.setLatch_coef (c : Cause) (w : U32) : (s.setLatch c w).coef = s.coef := rfl
@[simp] theorem State.setLatch_fault (c : Cause) (w : U32) : (s.setLatch c w).fault = true := rfl
@[simp] theorem State.setLatch_fcause (c : Cause) (w : U32) : (s.setLatch c w).fcause = causeCode c := rfl
@[simp] theorem State.setLatch_fcmd (c : Cause) (w : U32) : (s.setLatch c w).fcmd = w := rfl
@[simp] theorem State.setLatch_inputs (c : Cause) (w : U32) : (s.setLatch c w).inputs = s.inputs := rfl
@[simp] theorem State.setLatch_rsp (c : Cause) (w : U32) : (s.setLatch c w).rsp = s.rsp := rfl
@[simp] theorem State.setLatch_responses (c : Cause) (w : U32) : (s.setLatch c w).responses = s.responses := rfl

@[simp] theorem State.respond_params (st : BitVec 4) (d : U64) : (s.respond st d).params = s.params := rfl
@[simp] theorem State.respond_x (st : BitVec 4) (d : U64) : (s.respond st d).x = s.x := rfl
@[simp] theorem State.respond_q (st : BitVec 4) (d : U64) : (s.respond st d).q = s.q := rfl
@[simp] theorem State.respond_v (st : BitVec 4) (d : U64) : (s.respond st d).v = s.v := rfl
@[simp] theorem State.respond_prngState (st : BitVec 4) (d : U64) : (s.respond st d).prngState = s.prngState := rfl
@[simp] theorem State.respond_prngInc (st : BitVec 4) (d : U64) : (s.respond st d).prngInc = s.prngInc := rfl
@[simp] theorem State.respond_cfgK (st : BitVec 4) (d : U64) : (s.respond st d).cfgK = s.cfgK := rfl
@[simp] theorem State.respond_cfgBk (st : BitVec 4) (d : U64) : (s.respond st d).cfgBk = s.cfgBk := rfl
@[simp] theorem State.respond_coef (st : BitVec 4) (d : U64) : (s.respond st d).coef = s.coef := rfl
@[simp] theorem State.respond_fault (st : BitVec 4) (d : U64) : (s.respond st d).fault = s.fault := rfl
@[simp] theorem State.respond_fcause (st : BitVec 4) (d : U64) : (s.respond st d).fcause = s.fcause := rfl
@[simp] theorem State.respond_fcmd (st : BitVec 4) (d : U64) : (s.respond st d).fcmd = s.fcmd := rfl
@[simp] theorem State.respond_inputs (st : BitVec 4) (d : U64) : (s.respond st d).inputs = s.inputs := rfl
@[simp] theorem State.respond_rsp (st : BitVec 4) (d : U64) : (s.respond st d).rsp = some ⟨st, d⟩ := rfl
@[simp] theorem State.respond_responses (st : BitVec 4) (d : U64) : (s.respond st d).responses = s.responses ++ [⟨st, d⟩] :=
  rfl

@[simp] theorem State.raise_params (c : Cause) (w : U32) : (s.raise c w).params = s.params := rfl
@[simp] theorem State.raise_x (c : Cause) (w : U32) : (s.raise c w).x = s.x := rfl
@[simp] theorem State.raise_q (c : Cause) (w : U32) : (s.raise c w).q = s.q := rfl
@[simp] theorem State.raise_v (c : Cause) (w : U32) : (s.raise c w).v = s.v := rfl
@[simp] theorem State.raise_prngState (c : Cause) (w : U32) : (s.raise c w).prngState = s.prngState := rfl
@[simp] theorem State.raise_prngInc (c : Cause) (w : U32) : (s.raise c w).prngInc = s.prngInc := rfl
@[simp] theorem State.raise_cfgK (c : Cause) (w : U32) : (s.raise c w).cfgK = s.cfgK := rfl
@[simp] theorem State.raise_cfgBk (c : Cause) (w : U32) : (s.raise c w).cfgBk = s.cfgBk := rfl
@[simp] theorem State.raise_coef (c : Cause) (w : U32) : (s.raise c w).coef = s.coef := rfl
@[simp] theorem State.raise_fault (c : Cause) (w : U32) : (s.raise c w).fault = true := rfl
@[simp] theorem State.raise_fcause (c : Cause) (w : U32) : (s.raise c w).fcause = causeCode c := rfl
@[simp] theorem State.raise_fcmd (c : Cause) (w : U32) : (s.raise c w).fcmd = w := rfl
@[simp] theorem State.raise_inputs (c : Cause) (w : U32) : (s.raise c w).inputs = s.inputs := rfl
@[simp] theorem State.raise_rsp (c : Cause) (w : U32) : (s.raise c w).rsp = some ⟨causeCode c, 0⟩ := rfl
@[simp] theorem State.raise_responses (c : Cause) (w : U32) : (s.raise c w).responses = s.responses ++ [⟨causeCode c, 0⟩] :=
  rfl

@[simp] theorem State.refuseHalted_params : (s.refuseHalted).params = s.params := rfl
@[simp] theorem State.refuseHalted_x : (s.refuseHalted).x = s.x := rfl
@[simp] theorem State.refuseHalted_q : (s.refuseHalted).q = s.q := rfl
@[simp] theorem State.refuseHalted_v : (s.refuseHalted).v = s.v := rfl
@[simp] theorem State.refuseHalted_prngState : (s.refuseHalted).prngState = s.prngState := rfl
@[simp] theorem State.refuseHalted_prngInc : (s.refuseHalted).prngInc = s.prngInc := rfl
@[simp] theorem State.refuseHalted_cfgK : (s.refuseHalted).cfgK = s.cfgK := rfl
@[simp] theorem State.refuseHalted_cfgBk : (s.refuseHalted).cfgBk = s.cfgBk := rfl
@[simp] theorem State.refuseHalted_coef : (s.refuseHalted).coef = s.coef := rfl
@[simp] theorem State.refuseHalted_fault : (s.refuseHalted).fault = s.fault := rfl
@[simp] theorem State.refuseHalted_fcause : (s.refuseHalted).fcause = s.fcause := rfl
@[simp] theorem State.refuseHalted_fcmd : (s.refuseHalted).fcmd = s.fcmd := rfl
@[simp] theorem State.refuseHalted_inputs : (s.refuseHalted).inputs = s.inputs := rfl
@[simp] theorem State.refuseHalted_rsp : (s.refuseHalted).rsp = some ⟨statusHalted, 0⟩ := rfl
@[simp] theorem State.refuseHalted_responses : (s.refuseHalted).responses = s.responses ++ [⟨statusHalted, 0⟩] := rfl

@[simp] theorem State.present_params (c : Command) : (s.present c).params = s.params := rfl
@[simp] theorem State.present_x (c : Command) : (s.present c).x = s.x := rfl
@[simp] theorem State.present_q (c : Command) : (s.present c).q = s.q := rfl
@[simp] theorem State.present_v (c : Command) : (s.present c).v = s.v := rfl
@[simp] theorem State.present_prngState (c : Command) : (s.present c).prngState = s.prngState := rfl
@[simp] theorem State.present_prngInc (c : Command) : (s.present c).prngInc = s.prngInc := rfl
@[simp] theorem State.present_cfgK (c : Command) : (s.present c).cfgK = s.cfgK := rfl
@[simp] theorem State.present_cfgBk (c : Command) : (s.present c).cfgBk = s.cfgBk := rfl
@[simp] theorem State.present_coef (c : Command) : (s.present c).coef = s.coef := rfl
@[simp] theorem State.present_fault (c : Command) : (s.present c).fault = s.fault := rfl
@[simp] theorem State.present_fcause (c : Command) : (s.present c).fcause = s.fcause := rfl
@[simp] theorem State.present_fcmd (c : Command) : (s.present c).fcmd = s.fcmd := rfl
@[simp] theorem State.present_inputs (c : Command) : (s.present c).inputs = .command c :: s.inputs := rfl
@[simp] theorem State.present_rsp (c : Command) : (s.present c).rsp = s.rsp := rfl
@[simp] theorem State.present_responses (c : Command) : (s.present c).responses = s.responses := rfl

@[simp] theorem State.applyReset_params : (s.applyReset).params = s.params := rfl
@[simp] theorem State.applyReset_x : (s.applyReset).x = Vector.replicate 16 0 := rfl
@[simp] theorem State.applyReset_q : (s.applyReset).q = Vector.replicate 4 Limbs.zero := rfl
@[simp] theorem State.applyReset_v : (s.applyReset).v = Vector.replicate 4 (List.replicate s.params.lanes 0) := rfl
@[simp] theorem State.applyReset_prngState : (s.applyReset).prngState = 0 := rfl
@[simp] theorem State.applyReset_prngInc : (s.applyReset).prngInc = 1 := rfl
@[simp] theorem State.applyReset_cfgK : (s.applyReset).cfgK = 0 := rfl
@[simp] theorem State.applyReset_cfgBk : (s.applyReset).cfgBk = resetBackend s.params := rfl
@[simp] theorem State.applyReset_coef : (s.applyReset).coef = [] := rfl
@[simp] theorem State.applyReset_fault : (s.applyReset).fault = false := rfl
@[simp] theorem State.applyReset_fcause : (s.applyReset).fcause = 0 := rfl
@[simp] theorem State.applyReset_fcmd : (s.applyReset).fcmd = 0 := rfl
@[simp] theorem State.applyReset_inputs : (s.applyReset).inputs = s.inputs := rfl
@[simp] theorem State.applyReset_rsp : (s.applyReset).rsp = none := rfl
@[simp] theorem State.applyReset_responses : (s.applyReset).responses = s.responses := rfl

@[simp] theorem next32_params : (next32 s).2.params = s.params := rfl
@[simp] theorem next32_x : (next32 s).2.x = s.x := rfl
@[simp] theorem next32_q : (next32 s).2.q = s.q := rfl
@[simp] theorem next32_v : (next32 s).2.v = s.v := rfl
@[simp] theorem next32_prngState : (next32 s).2.prngState = prngAdvance s.prngState s.prngInc := rfl
@[simp] theorem next32_prngInc : (next32 s).2.prngInc = s.prngInc := rfl
@[simp] theorem next32_cfgK : (next32 s).2.cfgK = s.cfgK := rfl
@[simp] theorem next32_cfgBk : (next32 s).2.cfgBk = s.cfgBk := rfl
@[simp] theorem next32_coef : (next32 s).2.coef = s.coef := rfl
@[simp] theorem next32_fault : (next32 s).2.fault = s.fault := rfl
@[simp] theorem next32_fcause : (next32 s).2.fcause = s.fcause := rfl
@[simp] theorem next32_fcmd : (next32 s).2.fcmd = s.fcmd := rfl
@[simp] theorem next32_inputs : (next32 s).2.inputs = s.inputs := rfl
@[simp] theorem next32_rsp : (next32 s).2.rsp = s.rsp := rfl
@[simp] theorem next32_responses : (next32 s).2.responses = s.responses := rfl

@[simp] theorem next64_params : (next64 s).2.params = s.params := rfl
@[simp] theorem next64_x : (next64 s).2.x = s.x := rfl
@[simp] theorem next64_q : (next64 s).2.q = s.q := rfl
@[simp] theorem next64_v : (next64 s).2.v = s.v := rfl
@[simp] theorem next64_prngState : (next64 s).2.prngState = prngAdvance (prngAdvance s.prngState s.prngInc) s.prngInc :=
  rfl
@[simp] theorem next64_prngInc : (next64 s).2.prngInc = s.prngInc := rfl
@[simp] theorem next64_cfgK : (next64 s).2.cfgK = s.cfgK := rfl
@[simp] theorem next64_cfgBk : (next64 s).2.cfgBk = s.cfgBk := rfl
@[simp] theorem next64_coef : (next64 s).2.coef = s.coef := rfl
@[simp] theorem next64_fault : (next64 s).2.fault = s.fault := rfl
@[simp] theorem next64_fcause : (next64 s).2.fcause = s.fcause := rfl
@[simp] theorem next64_fcmd : (next64 s).2.fcmd = s.fcmd := rfl
@[simp] theorem next64_inputs : (next64 s).2.inputs = s.inputs := rfl
@[simp] theorem next64_rsp : (next64 s).2.rsp = s.rsp := rfl
@[simp] theorem next64_responses : (next64 s).2.responses = s.responses := rfl

/-- A scalar register that was written reads the value written. -/
@[simp] theorem State.readX_writeX_same (r : XReg) (w : U64) : (s.writeX r w).readX r = w := by
  simp [State.readX, -State.writeX_x, State.writeX]

/-- A write of a scalar register leaves the others alone. -/
theorem State.readX_writeX_of_ne (r t : XReg) (w : U64) (h : t ≠ r) : (s.writeX r w).readX t = s.readX t := by
  have hn : r.toNat ≠ t.toNat := fun e => h (BitVec.eq_of_toNat_eq e.symm)
  simp [State.readX, Vector.getElem_set_ne _ _ hn]

/-- A limb register that was written reads the triple written. -/
@[simp] theorem State.readQ_writeQ_same (r : QReg) (w : Limbs) : (s.writeQ r w).readQ r = w := by
  simp [State.readQ]

/-- A write of a limb register leaves the others alone. -/
theorem State.readQ_writeQ_of_ne (r t : QReg) (w : Limbs) (h : t ≠ r) : (s.writeQ r w).readQ t = s.readQ t := by
  have hn : r.toNat ≠ t.toNat := fun e => h (BitVec.eq_of_toNat_eq e.symm)
  simp [State.readQ, Vector.getElem_set_ne _ _ hn]

/-- A vector register that was written reads the lanes written. -/
@[simp] theorem State.readV_writeV_same (r : VReg) (l : List U64) : (s.writeV r l).readV r = l := by
  simp [State.readV]

/-- A write of a vector register leaves the others alone. -/
theorem State.readV_writeV_of_ne (r t : VReg) (l : List U64) (h : t ≠ r) : (s.writeV r l).readV t = s.readV t := by
  have hn : r.toNat ≠ t.toNat := fun e => h (BitVec.eq_of_toNat_eq e.symm)
  simp [State.readV, Vector.getElem_set_ne _ _ hn]

/-- A write of one lane is a write of its register. -/
theorem State.writeLane_eq (r : VReg) (j : Nat) (w : U64) : s.writeLane r j w = s.writeV r ((s.readV r).set j w) := rfl

/-- Two reads of a register file agree when the files agree. -/
theorem State.readX_congr (s t : State) (h : s.x = t.x) (r : XReg) : s.readX r = t.readX r := by
  simp [State.readX, h]

/-- Two reads of the limb registers agree when the files agree. -/
theorem State.readQ_congr (s t : State) (h : s.q = t.q) (r : QReg) : s.readQ r = t.readQ r := by
  simp [State.readQ, h]

/-- Two reads of the vector registers agree when the files agree. -/
theorem State.readV_congr (s t : State) (h : s.v = t.v) (r : VReg) : s.readV r = t.readV r := by
  simp [State.readV, h]

/-- Every scalar register of a reset instance is 0 (10_state R33). -/
@[simp] theorem State.readX_resetOf (p : Params) (r : XReg) : (State.resetOf p).readX r = 0 := by
  simp [State.readX, State.resetOf]

/-- Every limb register of a reset instance is `(0, 0, 0)` (10_state R33). -/
@[simp] theorem State.readQ_resetOf (p : Params) (r : QReg) : (State.resetOf p).readQ r = Limbs.zero := by
  simp [State.readQ, State.resetOf]

/-- Every vector register of a reset instance has `LANES` lanes of 0 (10_state R33). -/
@[simp] theorem State.readV_resetOf (p : Params) (r : VReg) :
    (State.resetOf p).readV r = List.replicate p.lanes 0 := by
  simp [State.readV, State.resetOf]

end Sys2Proof.Machine
end

