-- ==== Sys2Proof/Laws/Ops.lean ====
section
/-! SUPPORT. Laws/Ops.lean: what each shared operation can do, said once: completing a command, taking a fault, reset, and the
entries of the coefficient memory through the state. -/

namespace Sys2Proof.Machine

/-- A completed command answers one next state. -/
theorem finish_eq (s : State) : finish s = .next (s.respond statusOk 0) := rfl

/-- A completed command that delivers data answers one next state. -/
theorem finishWith_eq (s : State) (d : U64) : finishWith s d = .next (s.respond statusOk d) := rfl

/-- A fault answers one next state. -/
theorem trap_eq (c : Cause) (i : Instr) (s : State) : trap c i s = .next (s.raise c (encodeWord i)) := rfl

/-- All a completed command can answer. -/
theorem finish_next {s t : State} : finish s = .next t ↔ t = s.respond statusOk 0 := by
  rw [finish_eq, Host.Outcome.next.injEq, eq_comm]

/-- All a completed command that delivers data can answer. -/
theorem finishWith_next {s t : State} {d : U64} : finishWith s d = .next t ↔ t = s.respond statusOk d := by
  rw [finishWith_eq, Host.Outcome.next.injEq, eq_comm]

/-- All a faulting command can answer. -/
theorem trap_next {c : Cause} {i : Instr} {s t : State} : trap c i s = .next t ↔ t = s.raise c (encodeWord i) := by
  rw [trap_eq, Host.Outcome.next.injEq, eq_comm]

/-- The response, in the terms statements use. -/
theorem respond_eq_answered (s : State) (st : BitVec 4) (d : U64) : s.respond st d = s.answered ⟨st, d⟩ := rfl

/-- The fault entry, in the terms statements use. -/
theorem raise_eq_faulted (s : State) (c : Cause) (w : U32) : s.raise c w = s.faulted (causeCode c) w := rfl

/-- A cause code is between 1 and 6 (60_exceptions R251). -/
theorem causeCode_range (c : Cause) : 1 ≤ (causeCode c).toNat ∧ (causeCode c).toNat ≤ 6 := by
  cases c <;> decide

/-- Different causes have different codes. -/
theorem causeCode_inj {c d : Cause} (h : causeCode c = causeCode d) : c = d := by
  revert h
  cases c <;> cases d <;> decide

/-- An entry that was written reads the triple written. -/
theorem State.readC_writeC_same {n : Nat} {s : State} (h : s.coef.wf n) (i : Nat) (t : Limbs) :
    (s.writeC i t).readC i = t := Memory.read_write_same h i t

/-- A write of one entry leaves every other entry alone. -/
theorem State.readC_writeC_of_ne (s : State) {i j : Nat} (h : j ≠ i) (t : Limbs) :
    (s.writeC i t).readC j = s.readC j := Memory.read_write_of_ne s.coef h t

/-- Every entry of a cleared memory is `(0, 0, 0)`. -/
@[simp] theorem State.readC_clearC (s : State) (i : Nat) : s.clearC.readC i = Limbs.zero := rfl

/-- Two reads of the coefficient memory agree when the memories agree. -/
theorem State.readC_congr {s t : State} (h : s.coef = t.coef) (i : Nat) : s.readC i = t.readC i := by
  simp only [State.readC, h]

/-- The memory of a reset instance is canonical. -/
theorem Memory.reset_wf (p : Params) : (State.resetOf p).coef.wf p.kmax := Memory.cleared_wf p.kmax

/-- A reset is the reset state of the same instance, but for what the host presents and the responses it was given. -/
theorem State.applyReset_eq (s : State) :
    s.applyReset = { State.resetOf s.params with inputs := s.inputs, responses := s.responses } := rfl

end Sys2Proof.Machine
end

