-- ==== Sys2Proof/Laws/PerInstr.lean ====
section
/-! SUPPORT. Laws/PerInstr.lean: statements for every instruction, one lemma per constructor. EncodedRow: the word of an
instruction matches the row of the opcode map that has its mnemonic (30_encoding R77). -/

-- one theorem after another: elaborated side by side, the many small theorems of this file start a thread each
set_option Elab.async false

namespace Sys2Proof.Laws

/-- The word of the instruction is a well-formed instance of the row with its mnemonic (30_encoding R77). -/
def EncodedRow.Statement (i : Instr) : Prop :=
  ∃ r ∈ opcodeRows, r.mnemonic = i.mnemonic ∧ r.matches (encodeWord i) = true

/-- A row of the map that the fields of an instruction match under the row's mask. -/
theorem encodedRow_of_fields {i : Instr} (r : OpcodeRow) (hr : r ∈ opcodeRows) (hm : r.mnemonic = i.mnemonic)
    (hf : fieldsAnd (encodeFields i) (fieldsOf r.mask) = fieldsOf r.pattern) : EncodedRow.Statement i :=
  ⟨r, hr, hm, (row_matches_wordOf r _).mpr hf⟩

theorem EncodedRow.li (xd : XReg) (value : U64) : EncodedRow.Statement (.li xd value) :=
  encodedRow_of_fields ⟨"LI", 0x01000000, 0xFF0FFFFF⟩ (by simp [opcodeRows]) rfl (by simp [fieldsAnd, fieldsOf, encodeFields])

theorem EncodedRow.rd (xs : XReg) : EncodedRow.Statement (.rd xs) :=
  encodedRow_of_fields ⟨"RD", 0x02000000, 0xFFF0FFFF⟩ (by simp [opcodeRows]) rfl (by simp [fieldsAnd, fieldsOf, encodeFields])

theorem EncodedRow.crd (xd : XReg) (csr : Imm) : EncodedRow.Statement (.crd xd csr) :=
  encodedRow_of_fields ⟨"CRD", 0x08000000, 0xFF0FFF00⟩ (by simp [opcodeRows]) rfl (by simp [fieldsAnd, fieldsOf, encodeFields])

theorem EncodedRow.cwr (csr : Imm) (xs : XReg) : EncodedRow.Statement (.cwr csr xs) :=
  encodedRow_of_fields ⟨"CWR", 0x09000000, 0xFFF0FF00⟩ (by simp [opcodeRows]) rfl (by simp [fieldsAnd, fieldsOf, encodeFields])

theorem EncodedRow.pseed (xa xb : XReg) : EncodedRow.Statement (.pseed xa xb) :=
  encodedRow_of_fields ⟨"PSEED", 0x10000000, 0xFFF00FFF⟩ (by simp [opcodeRows]) rfl (by simp [fieldsAnd, fieldsOf, encodeFields])

theorem EncodedRow.pnext32 (xd : XReg) : EncodedRow.Statement (.pnext32 xd) :=
  encodedRow_of_fields ⟨"PNEXT32", 0x11000000, 0xFF0FFFFF⟩ (by simp [opcodeRows]) rfl (by simp [fieldsAnd, fieldsOf, encodeFields])

theorem EncodedRow.pnext64 (xd : XReg) : EncodedRow.Statement (.pnext64 xd) :=
  encodedRow_of_fields ⟨"PNEXT64", 0x12000000, 0xFF0FFFFF⟩ (by simp [opcodeRows]) rfl (by simp [fieldsAnd, fieldsOf, encodeFields])

theorem EncodedRow.mixa64 (xd xs : XReg) : EncodedRow.Statement (.mixa64 xd xs) :=
  encodedRow_of_fields ⟨"MIXA64", 0x20000000, 0xFF00FFFF⟩ (by simp [opcodeRows]) rfl (by simp [fieldsAnd, fieldsOf, encodeFields])

theorem EncodedRow.mixa32 (xd xs : XReg) : EncodedRow.Statement (.mixa32 xd xs) :=
  encodedRow_of_fields ⟨"MIXA32", 0x21000000, 0xFF00FFFF⟩ (by simp [opcodeRows]) rfl (by simp [fieldsAnd, fieldsOf, encodeFields])

theorem EncodedRow.mixb64 (xd xs : XReg) : EncodedRow.Statement (.mixb64 xd xs) :=
  encodedRow_of_fields ⟨"MIXB64", 0x22000000, 0xFF00FFFF⟩ (by simp [opcodeRows]) rfl (by simp [fieldsAnd, fieldsOf, encodeFields])

theorem EncodedRow.vmixa (vd vs : VReg) : EncodedRow.Statement (.vmixa vd vs) :=
  encodedRow_of_fields ⟨"VMIXA", 0x28000000, 0xFFCCFFFF⟩ (by simp [opcodeRows]) rfl (by simp [fieldsAnd, fieldsOf, encodeFields])

theorem EncodedRow.vmixb (vd vs : VReg) : EncodedRow.Statement (.vmixb vd vs) :=
  encodedRow_of_fields ⟨"VMIXB", 0x29000000, 0xFFCCFFFF⟩ (by simp [opcodeRows]) rfl (by simp [fieldsAnd, fieldsOf, encodeFields])

theorem EncodedRow.vset (vd : VReg) (xs : XReg) (lane : Imm) : EncodedRow.Statement (.vset vd xs lane) :=
  encodedRow_of_fields ⟨"VSET", 0x2C000000, 0xFFC0FF00⟩ (by simp [opcodeRows]) rfl (by simp [fieldsAnd, fieldsOf, encodeFields])

theorem EncodedRow.vget (xd : XReg) (vs : VReg) (lane : Imm) : EncodedRow.Statement (.vget xd vs lane) :=
  encodedRow_of_fields ⟨"VGET", 0x2D000000, 0xFF0CFF00⟩ (by simp [opcodeRows]) rfl (by simp [fieldsAnd, fieldsOf, encodeFields])

theorem EncodedRow.vbcast (vd : VReg) (xs : XReg) : EncodedRow.Statement (.vbcast vd xs) :=
  encodedRow_of_fields ⟨"VBCAST", 0x2E000000, 0xFFC0FFFF⟩ (by simp [opcodeRows]) rfl (by simp [fieldsAnd, fieldsOf, encodeFields])

theorem EncodedRow.red61 (xd xlo xhi : XReg) : EncodedRow.Statement (.red61 xd xlo xhi) :=
  encodedRow_of_fields ⟨"RED61", 0x30000000, 0xFF000FFF⟩ (by simp [opcodeRows]) rfl (by simp [fieldsAnd, fieldsOf, encodeFields])

theorem EncodedRow.mulmod61 (xd xa xb : XReg) : EncodedRow.Statement (.mulmod61 xd xa xb) :=
  encodedRow_of_fields ⟨"MULMOD61", 0x31000000, 0xFF000FFF⟩ (by simp [opcodeRows]) rfl (by simp [fieldsAnd, fieldsOf, encodeFields])

theorem EncodedRow.fmar89 (qd : QReg) (xs : XReg) (qa qb : QReg) : EncodedRow.Statement (.fmar89 qd xs qa qb) :=
  encodedRow_of_fields ⟨"FMAR89", 0x38000000, 0xFFC0CCFF⟩ (by simp [opcodeRows]) rfl (by simp [fieldsAnd, fieldsOf, encodeFields])

theorem EncodedRow.red89 (xd : XReg) (qs : QReg) : EncodedRow.Statement (.red89 xd qs) :=
  encodedRow_of_fields ⟨"RED89", 0x39000000, 0xFF0CFFFF⟩ (by simp [opcodeRows]) rfl (by simp [fieldsAnd, fieldsOf, encodeFields])

theorem EncodedRow.qset (qd : QReg) (xlo xhi : XReg) : EncodedRow.Statement (.qset qd xlo xhi) :=
  encodedRow_of_fields ⟨"QSET", 0x3C000000, 0xFFC00FFF⟩ (by simp [opcodeRows]) rfl (by simp [fieldsAnd, fieldsOf, encodeFields])

theorem EncodedRow.qgetl (xd : XReg) (qs : QReg) : EncodedRow.Statement (.qgetl xd qs) :=
  encodedRow_of_fields ⟨"QGETL", 0x3D000000, 0xFF0CFFFF⟩ (by simp [opcodeRows]) rfl (by simp [fieldsAnd, fieldsOf, encodeFields])

theorem EncodedRow.qgeth (xd : XReg) (qs : QReg) : EncodedRow.Statement (.qgeth xd qs) :=
  encodedRow_of_fields ⟨"QGETH", 0x3E000000, 0xFF0CFFFF⟩ (by simp [opcodeRows]) rfl (by simp [fieldsAnd, fieldsOf, encodeFields])

theorem EncodedRow.peval (xd xs : XReg) : EncodedRow.Statement (.peval xd xs) :=
  encodedRow_of_fields ⟨"PEVAL", 0x40000000, 0xFF00FFFF⟩ (by simp [opcodeRows]) rfl (by simp [fieldsAnd, fieldsOf, encodeFields])

theorem EncodedRow.cgen : EncodedRow.Statement (.cgen) :=
  encodedRow_of_fields ⟨"CGEN", 0x41000000, 0xFFFFFFFF⟩ (by simp [opcodeRows]) rfl (by simp [fieldsAnd, fieldsOf, encodeFields])

theorem EncodedRow.cset (idx : Imm) (qs : QReg) : EncodedRow.Statement (.cset idx qs) :=
  encodedRow_of_fields ⟨"CSET", 0x42000000, 0xFFFCFF00⟩ (by simp [opcodeRows]) rfl (by simp [fieldsAnd, fieldsOf, encodeFields])

theorem EncodedRow.cget (qd : QReg) (idx : Imm) : EncodedRow.Statement (.cget qd idx) :=
  encodedRow_of_fields ⟨"CGET", 0x43000000, 0xFFCFFF00⟩ (by simp [opcodeRows]) rfl (by simp [fieldsAnd, fieldsOf, encodeFields])

theorem EncodedRow.vpeval (vd vs : VReg) : EncodedRow.Statement (.vpeval vd vs) :=
  encodedRow_of_fields ⟨"VPEVAL", 0x48000000, 0xFFCCFFFF⟩ (by simp [opcodeRows]) rfl (by simp [fieldsAnd, fieldsOf, encodeFields])

end Sys2Proof.Laws
end

