-- ==== Sys2Proof/Laws/Prng.lean ====
section
/-! SUPPORT. Laws/Prng.lean: the draws as functions of the pair `(STATE, INC)` (41_prng R101, R102, R106). -/

namespace Sys2Proof.Machine

/-- The advance, as a function of the pair. -/
theorem prngAdvance_eq (old inc : U64) : prngAdvance old inc = old * pcgMult + inc := by
  rw [prngAdvance, BitVec.mul_comm]

/-- The output of one draw. -/
theorem next32_fst (s : State) : (next32 s).1 = prngOutput s.prngState := rfl

/-- The output of two draws, the first one the high half. -/
theorem next64_fst (s : State) :
    (next64 s).1 = join32 (prngOutput s.prngState) (prngOutput (prngAdvance s.prngState s.prngInc)) := rfl

/-- One draw leaves everything but `STATE` alone. -/
theorem next32_snd (s : State) : (next32 s).2 = s.writePrngState (prngAfter s.prngInc 1 s.prngState) := rfl

/-- Two draws leave everything but `STATE` alone. -/
theorem next64_snd (s : State) : (next64 s).2 = s.writePrngState (prngAfter s.prngInc 2 s.prngState) := rfl

/-- One draw after `n` draws is `n + 1` draws. -/
theorem prngAfter_succ (inc : U64) (n : Nat) (st : U64) :
    prngAfter inc (n + 1) st = prngAdvance (prngAfter inc n st) inc := by
  induction n generalizing st with
  | zero => rfl
  | succ n ih => exact ih (prngAdvance st inc)

/-- Draws add up. -/
theorem prngAfter_add (inc : U64) (m n : Nat) (st : U64) :
    prngAfter inc (m + n) st = prngAfter inc n (prngAfter inc m st) := by
  induction m generalizing st with
  | zero => rw [Nat.zero_add, prngAfter]
  | succ m ih => rw [Nat.succ_add, prngAfter, prngAfter, ih]

/-- A write of `INC` leaves it odd (10_state R25). -/
theorem State.writeInc_odd (s : State) (w : U64) : (s.writeInc w).IncOdd := by
  simp [State.IncOdd]

end Sys2Proof.Machine
end

