-- ==== Sys2Proof/Laws/Poly.lean ====
section
/-! SUPPORT. Laws/Poly.lean: drawing coefficients touches the generator's state and the coefficient memory only (46_poly
R207), and the coefficient set depends on `CFG.K` and the entries below it. -/

namespace Sys2Proof.Machine

/-- A coefficient drawn under Backend 61: one 64-bit draw, reduced. -/
theorem drawCoef_b61 {s : State} (h : s.cfgBk = .b61) :
    drawCoef s = (limbsOfScalar (reduce61 (zext128 (next64 s).1)), (next64 s).2) := by
  rw [drawCoef, h]

/-- A coefficient drawn under Backend 89: three 32-bit draws, the third masked. -/
theorem drawCoef_b89 {s : State} (h : s.cfgBk = .b89) :
    drawCoef s = (⟨s.drawNumber 0, s.drawNumber 1, s.drawNumber 2 &&& 0x01FFFFFF⟩,
      s.writePrngState (prngAfter s.prngInc 3 s.prngState)) := by
  rw [drawCoef, h]
  rfl

/-- The draws a coefficient takes: two 32-bit draws under Backend 61, three under Backend 89. -/
def drawsPerCoef : Backend → Nat
  | .b61 => 2
  | .b89 => 3

/-- A drawn coefficient advances `STATE` and leaves everything else alone, `INC` among it. -/
theorem drawCoef_snd (s : State) :
    (drawCoef s).2 = s.writePrngState (prngAfter s.prngInc (drawsPerCoef s.cfgBk) s.prngState) := by
  cases h : s.cfgBk with
  | b61 => rw [drawCoef_b61 h, drawsPerCoef, next64_snd]
  | b89 => rw [drawCoef_b89 h, drawsPerCoef]

/-- The loop of `CGEN` leaves everything but `STATE` and the coefficient memory alone. -/
theorem genCoefs_frame (n i : Nat) (s : State) :
    genCoefs n i s =
      { s with prngState := (genCoefs n i s).prngState, coef := (genCoefs n i s).coef } := by
  induction n generalizing i s with
  | zero => rfl
  | succ n ih =>
    rw [genCoefs, ih (i + 1), drawCoef_snd s]
    rfl

/-- The loop of `CGEN` leaves the entries below its start and from its end up alone. -/
theorem genCoefs_readC_of_not_mem (n i : Nat) (s : State) {j : Nat} (h : j < i ∨ i + n ≤ j) :
    (genCoefs n i s).readC j = s.readC j := by
  induction n generalizing i s with
  | zero => rfl
  | succ n ih =>
    rw [genCoefs, ih (i + 1) _ (by omega), State.readC_writeC_of_ne _ (by omega)]
    exact State.readC_congr (by rw [drawCoef_snd s, State.writePrngState_coef]) j

/-- The loop of `CGEN` keeps the canonical form of the memory. -/
theorem genCoefs_wf {kmax n i : Nat} {s : State} (h : s.coef.wf kmax) (hn : i + n ≤ kmax) :
    (genCoefs n i s).coef.wf kmax := by
  induction n generalizing i s with
  | zero => exact h
  | succ n ih =>
    rw [genCoefs]
    refine ih ?_ (by omega)
    rw [State.writeC_coef, drawCoef_snd s, State.writePrngState_coef]
    exact Memory.write_wf h (by omega) _

/-- The coefficient set has `K` coefficients. -/
@[simp] theorem State.coefSet_length (s : State) : s.coefSet.length = s.cfgK.toNat := by
  simp [State.coefSet]

/-- Coefficient number `i` is entry `C[i]` (46_poly R201). -/
theorem State.coefSet_getElem (s : State) (i : Nat) (h : i < s.coefSet.length) : s.coefSet[i] = s.readC i := by
  simp [State.coefSet]

/-- Two coefficient sets agree when `K` and the entries below it agree. -/
theorem State.coefSet_congr {s t : State} (hk : s.cfgK = t.cfgK) (h : ∀ i < s.cfgK.toNat, s.readC i = t.readC i) :
    s.coefSet = t.coefSet := by
  rw [State.coefSet, State.coefSet, ← hk]
  exact List.map_congr_left fun i hi => h i (List.mem_range.mp hi)

end Sys2Proof.Machine
end

