-- ==== Sys2Proof/Laws/Step.lean ====
section
/-! SUPPORT. Laws/Step.lean: everything the front of a step can come to, said once, with its guards. -/

namespace Sys2Proof.Machine

/-- What the front of a step can be: idle, a reset, a refusal of a halted block, an illegal word, or a decoded command. -/
theorem front_cases (s : State) :
    (s.inputs = [] ∧ front s = .settled s) ∨
    (∃ f rest, s.inputs = .reset f :: rest ∧ front s = .settled { s with inputs := rest }.applyReset) ∨
    (∃ c rest, s.inputs = .command c :: rest ∧ s.Halted ∧ front s = .settled { s with inputs := rest }.refuseHalted) ∨
    (∃ c rest e, s.inputs = .command c :: rest ∧ s.Running ∧ decode c = .error e ∧
      front s = .settled ({ s with inputs := rest }.raise .illegalCommand c.word)) ∨
    (∃ c rest i, s.inputs = .command c :: rest ∧ s.Running ∧ decode c = .ok i ∧
      front s = .execute i { s with inputs := rest }) := by
  unfold front
  split
  · next h => exact .inl ⟨h, rfl⟩
  · next f rest h => exact .inr (.inl ⟨f, rest, h, rfl⟩)
  · next c rest h =>
    refine .inr (.inr ?_)
    unfold acceptCommand
    by_cases hf : s.fault = true
    · exact .inl ⟨c, rest, h, hf, by simp [hf]⟩
    · refine .inr ?_
      have hr : s.fault = false := by simpa using hf
      cases hd : decode c with
      | error e => exact .inl ⟨c, rest, e, h, hr, hd, by simp [hr]⟩
      | ok i => exact .inr ⟨c, rest, i, h, hr, hd, by simp [hr]⟩

/-- A step is its front, then the command it decoded. -/
theorem step_eq (s : State) :
    step s = match front s with
      | .settled t => .next t
      | .execute i t => exec i t := rfl

end Sys2Proof.Machine
end

