-- ==== Sys2Proof/Tests/Slice0.lean ====
section
/-! SUPPORT. Tests/Slice0.lean: tests of the model on the values the spec writes out (95_test_vectors and the examples of the
rules), and for every statement with hypotheses a state and operands that meet them. Every expected value is the spec's. -/

-- One thread: each test is a kernel evaluation of its own, and many at once ask for more threads than the sandbox gives.
set_option Elab.async false

namespace Sys2Proof.Tests

open Sys2Proof Sys2Proof.Machine

/-- The state after one instruction. -/
def after (i : Instr) (s : State) : State :=
  match exec i s with
  | .next t => t
  | .fault _ => s
  | .refused _ => s

/-- The state after one step on a presented command. -/
def stepped (w : U32) (d : U64) (s : State) : State :=
  match step (s.present ⟨w, d⟩) with
  | .next t => t
  | .fault _ => s
  | .refused _ => s

/-- The reset state with two scalar registers set. -/
def withX (a : XReg) (u : U64) (b : XReg) (v : U64) : State := (State.reset.writeX a u).writeX b v

/-- The reset state with two limb registers set and `x4`. -/
def withQ (t u : Limbs) (k : U64) : State := ((State.reset.writeQ 1 t).writeQ 2 u).writeX 4 k

/-- The generator seeded as in 41_prng R103: `STATE`, `INC`. -/
def seeded (st inc : U64) : State := { State.reset with prngState := st, prngInc := inc }

/-- The default instance without one backend. -/
def without61 : Params := { Params.default with has61 := false }

/-- The default instance without Backend 89. -/
def without89 : Params := { Params.default with has89 := false }

/-- A configured reset state: `CFG.K`, `CFG.BK`. -/
def configured (k : BitVec 8) (b : Backend) : State := { State.reset with cfgK := k, cfgBk := b }

/-- A halted state: the one after `VPEVAL v0, v0` (60_exceptions). -/
def halted : State := stepped 0x48000000 0 State.reset

/-! Well-formedness: for each check a term it refuses, and its neighbour that it lets pass (30_encoding R75, R81). -/

theorem test_wf_red61_needs_its_backend :
    Instr.wellFormed without61 (.red61 3 1 2) = false ∧ Instr.wellFormed Params.default (.red61 3 1 2) = true := by
  decide +kernel

theorem test_wf_mulmod61_needs_its_backend :
    Instr.wellFormed without61 (.mulmod61 3 1 2) = false ∧ Instr.wellFormed Params.default (.mulmod61 3 1 2) = true := by
  decide +kernel

theorem test_wf_fmar89_needs_its_backend :
    Instr.wellFormed without89 (.fmar89 0 4 0 1) = false ∧ Instr.wellFormed Params.default (.fmar89 0 4 0 1) = true := by
  decide +kernel

theorem test_wf_red89_needs_its_backend :
    Instr.wellFormed without89 (.red89 6 0) = false ∧ Instr.wellFormed Params.default (.red89 6 0) = true := by
  decide +kernel

theorem test_wf_vset_lane :
    Instr.wellFormed Params.default (.vset 3 9 4) = false ∧ Instr.wellFormed Params.default (.vset 3 9 3) = true := by
  decide +kernel

theorem test_wf_vget_lane :
    Instr.wellFormed Params.default (.vget 3 1 4) = false ∧ Instr.wellFormed Params.default (.vget 3 1 3) = true := by
  decide +kernel

theorem test_wf_cset_index :
    Instr.wellFormed Params.default (.cset 16 2) = false ∧ Instr.wellFormed Params.default (.cset 15 2) = true := by
  decide +kernel

theorem test_wf_cget_index :
    Instr.wellFormed Params.default (.cget 0 16) = false ∧ Instr.wellFormed Params.default (.cget 0 15) = true := by
  decide +kernel

theorem test_wf_crd_number :
    Instr.wellFormed Params.default (.crd 1 4) = false ∧ Instr.wellFormed Params.default (.crd 1 3) = true := by
  decide +kernel

theorem test_wf_cwr_number :
    Instr.wellFormed Params.default (.cwr 4 1) = false ∧ Instr.wellFormed Params.default (.cwr 3 1) = true := by
  decide +kernel

theorem test_wf_cwr_hwcfg :
    Instr.wellFormed Params.default (.cwr 0 1) = false ∧ Instr.wellFormed Params.default (.cwr 1 1) = true := by
  decide +kernel

/-! Well-formed parameter sets (00_scope R5, R6): the default, the bounds, and one refused set for each condition. -/

theorem test_params_default :
    Params.wf Params.default = true ∧ Params.wf without61 = true ∧ Params.wf without89 = true := by decide +kernel

theorem test_params_refused : State.build { Params.default with lanes := 0 } = none ∧
    State.build { Params.default with lanes := 257 } = none ∧
    State.build { Params.default with kmax := 0 } = none ∧
    State.build { Params.default with kmax := 256 } = none ∧
    State.build { Params.default with has61 := false, has89 := false } = none ∧
    State.build { Params.default with mixA64Steps := [] } = none ∧
    State.build { Params.default with mixA64Steps := [.xsr 64] } = none ∧
    State.build { Params.default with mixA64Steps := [.cadd 0] } = none ∧
    State.build { Params.default with mixA64Steps := [.mul 2] } = none ∧
    State.build { Params.default with mixA32Steps := [] } = none ∧
    State.build { Params.default with mixA32Steps := [.addc 32] } = none ∧
    State.build { Params.default with mixA32Steps := [.mul 4294967296] } = none ∧
    State.build { Params.default with mixBS1 := 0 } = none ∧
    State.build { Params.default with mixBS2 := 64 } = none ∧
    State.build { Params.default with mixBS3 := 0 } = none ∧
    State.build { Params.default with mixBM1 := 2 } = none ∧
    State.build { Params.default with mixBM2 := 0 } = none := by decide +kernel

theorem test_params_bounds :
    Params.wf { Params.default with lanes := 256, kmax := 255 } = true ∧
    Params.wf { Params.default with lanes := 1, kmax := 1, mixA32Steps := [.mul 2, .xsr 31] } = true := by
  decide +kernel

/-! Decoding: for every command the word of 95_test_vectors section 7, both ways. -/

theorem test_decode_li :
    decode ⟨0x01100000, 7⟩ = .ok (.li 1 7) ∧ encode (.li 1 7) = ⟨0x01100000, 7⟩ := by decide +kernel

theorem test_decode_rd : decode ⟨0x02020000, 0⟩ = .ok (.rd 2) ∧ encode (.rd 2) = ⟨0x02020000, 0⟩ := by decide +kernel

theorem test_decode_crd :
    decode ⟨0x08700000, 0⟩ = .ok (.crd 7 0) ∧ encode (.crd 7 0) = ⟨0x08700000, 0⟩ := by decide +kernel

theorem test_decode_cwr :
    decode ⟨0x09030001, 0⟩ = .ok (.cwr 1 3) ∧ encode (.cwr 1 3) = ⟨0x09030001, 0⟩ := by decide +kernel

theorem test_decode_pseed :
    decode ⟨0x10012000, 0⟩ = .ok (.pseed 1 2) ∧ encode (.pseed 1 2) = ⟨0x10012000, 0⟩ := by decide +kernel

theorem test_decode_pnext32 :
    decode ⟨0x11100000, 0⟩ = .ok (.pnext32 1) ∧ encode (.pnext32 1) = ⟨0x11100000, 0⟩ := by decide +kernel

theorem test_decode_pnext64 :
    decode ⟨0x12100000, 0⟩ = .ok (.pnext64 1) ∧ encode (.pnext64 1) = ⟨0x12100000, 0⟩ := by decide +kernel

theorem test_decode_mixa64 :
    decode ⟨0x20210000, 0⟩ = .ok (.mixa64 2 1) ∧ encode (.mixa64 2 1) = ⟨0x20210000, 0⟩ := by decide +kernel

theorem test_decode_mixa32 :
    decode ⟨0x21210000, 0⟩ = .ok (.mixa32 2 1) ∧ encode (.mixa32 2 1) = ⟨0x21210000, 0⟩ := by decide +kernel

theorem test_decode_mixb64 :
    decode ⟨0x22210000, 0⟩ = .ok (.mixb64 2 1) ∧ encode (.mixb64 2 1) = ⟨0x22210000, 0⟩ := by decide +kernel

theorem test_decode_vmixa :
    decode ⟨0x28100000, 0⟩ = .ok (.vmixa 1 0) ∧ encode (.vmixa 1 0) = ⟨0x28100000, 0⟩ := by decide +kernel

theorem test_decode_vmixb :
    decode ⟨0x29100000, 0⟩ = .ok (.vmixb 1 0) ∧ encode (.vmixb 1 0) = ⟨0x29100000, 0⟩ := by decide +kernel

theorem test_decode_vset :
    decode ⟨0x2C390001, 0⟩ = .ok (.vset 3 9 1) ∧ encode (.vset 3 9 1) = ⟨0x2C390001, 0⟩ := by decide +kernel

theorem test_decode_vget :
    decode ⟨0x2D310002, 0⟩ = .ok (.vget 3 1 2) ∧ encode (.vget 3 1 2) = ⟨0x2D310002, 0⟩ := by decide +kernel

theorem test_decode_vbcast :
    decode ⟨0x2E010000, 0⟩ = .ok (.vbcast 0 1) ∧ encode (.vbcast 0 1) = ⟨0x2E010000, 0⟩ := by decide +kernel

theorem test_decode_red61 :
    decode ⟨0x30312000, 0⟩ = .ok (.red61 3 1 2) ∧ encode (.red61 3 1 2) = ⟨0x30312000, 0⟩ := by decide +kernel

theorem test_decode_mulmod61 :
    decode ⟨0x31312000, 0⟩ = .ok (.mulmod61 3 1 2) ∧ encode (.mulmod61 3 1 2) = ⟨0x31312000, 0⟩ := by decide +kernel

theorem test_decode_fmar89 :
    decode ⟨0x38040100, 0⟩ = .ok (.fmar89 0 4 0 1) ∧ encode (.fmar89 0 4 0 1) = ⟨0x38040100, 0⟩ := by decide +kernel

theorem test_decode_red89 :
    decode ⟨0x39600000, 0⟩ = .ok (.red89 6 0) ∧ encode (.red89 6 0) = ⟨0x39600000, 0⟩ := by decide +kernel

theorem test_decode_qset :
    decode ⟨0x3C212000, 0⟩ = .ok (.qset 2 1 2) ∧ encode (.qset 2 1 2) = ⟨0x3C212000, 0⟩ := by decide +kernel

theorem test_decode_qgetl :
    decode ⟨0x3D120000, 0⟩ = .ok (.qgetl 1 2) ∧ encode (.qgetl 1 2) = ⟨0x3D120000, 0⟩ := by decide +kernel

theorem test_decode_qgeth :
    decode ⟨0x3E120000, 0⟩ = .ok (.qgeth 1 2) ∧ encode (.qgeth 1 2) = ⟨0x3E120000, 0⟩ := by decide +kernel

theorem test_decode_peval :
    decode ⟨0x40540000, 0⟩ = .ok (.peval 5 4) ∧ encode (.peval 5 4) = ⟨0x40540000, 0⟩ := by decide +kernel

theorem test_decode_cgen : decode ⟨0x41000000, 0⟩ = .ok .cgen ∧ encode .cgen = ⟨0x41000000, 0⟩ := by decide +kernel

theorem test_decode_cset :
    decode ⟨0x42020005, 0⟩ = .ok (.cset 5 2) ∧ encode (.cset 5 2) = ⟨0x42020005, 0⟩ := by decide +kernel

theorem test_decode_cget :
    decode ⟨0x43000003, 0⟩ = .ok (.cget 0 3) ∧ encode (.cget 0 3) = ⟨0x43000003, 0⟩ := by decide +kernel

theorem test_decode_vpeval :
    decode ⟨0x48000000, 0⟩ = .ok (.vpeval 0 0) ∧ encode (.vpeval 0 0) = ⟨0x48000000, 0⟩ := by decide +kernel

theorem test_decode_fmar89_all_fields : decode ⟨0x38041200, 0⟩ = .ok (.fmar89 0 4 1 2) := by decide +kernel

theorem test_table_word :
    decodeTableWord 32 0x2D310002 = some (.vget 3 1 2) ∧ decodeTableWord 32 0x28400000 = none := by decide +kernel

/-! Illegal words (95_test_vectors section 8). -/

theorem test_illegal_unassigned : decode ⟨0x23210000, 0⟩ = .error .unassignedOpcode := by decide +kernel

theorem test_illegal_all_zero : decode ⟨0, 0⟩ = .error .unassignedOpcode := by decide +kernel

theorem test_illegal_all_ones : decode ⟨0xFFFFFFFF, 0⟩ = .error .unassignedOpcode := by decide +kernel

theorem test_illegal_li_unused_field : decode ⟨0x01110000, 0⟩ = .error .unusedFieldNotZero := by decide +kernel

theorem test_illegal_mixa64_unused_imm : decode ⟨0x20210001, 0⟩ = .error .unusedFieldNotZero := by decide +kernel

theorem test_illegal_vmixa_specifier : decode ⟨0x28400000, 0⟩ = .error .specifierAbove3 := by decide +kernel

theorem test_illegal_vpeval_specifier : decode ⟨0x48400000, 0⟩ = .error .specifierAbove3 := by decide +kernel

/-! The assembler (30_encoding R83). -/

theorem test_assemble_vget : assemble "VGET x3, v1, 2".toList = some ⟨0x2D310002, 0⟩ := by decide +kernel

theorem test_assemble_li :
    assemble "LI x1, 0x0123456789ABCDEF".toList = some ⟨0x01100000, 0x0123456789ABCDEF⟩ := by decide +kernel

theorem test_assemble_csr_name : assemble "CWR PINC, x2".toList = some ⟨0x09020003, 0⟩ := by decide +kernel

theorem test_assemble_comment :
    assemble "CSET 5, q2 ; one coefficient".toList = some ⟨0x42020005, 0⟩ := by decide +kernel

theorem test_assemble_fmar89 : assemble "FMAR89 q0, x4, q0, q1".toList = some ⟨0x38040100, 0⟩ := by decide +kernel

theorem test_assemble_cgen : assemble "CGEN".toList = some ⟨0x41000000, 0⟩ := by decide +kernel

theorem test_assemble_choices_of_log_15 : assemble "CRD x015 0x0a".toList = assemble "CRD x15, 10".toList ∧
    assemble "CRD x15, 0x0A".toList = some ⟨0x08F0000A, 0⟩ ∧ assemble "crd x1, 3".toList = none ∧
    assemble "CSET 256, q2".toList = none ∧ assemble "CSET 0X05, q2".toList = none := by decide +kernel

theorem test_assemble_refuses :
    assemble "LI x16, 1".toList = none ∧ assemble "QSET q4, x1, x2".toList = none ∧ assemble "NOP".toList = none := by
  decide +kernel

/-! One step of each command on the spec's values. -/

theorem test_li : (stepped 0x01100000 0x0123456789ABCDEF State.reset).readX 1 = 0x0123456789ABCDEF := by decide +kernel

theorem test_rd :
    (stepped 0x02010000 0 (withX 1 0x0123456789ABCDEF 2 0)).rsp = some ⟨0, 0x0123456789ABCDEF⟩ := by decide +kernel

theorem test_crd :
    (after (.crd 7 0) State.reset).readX 7 = 0x31004 ∧ (after (.crd 1 3) State.reset).readX 1 = 1 := by decide +kernel

theorem test_crd_fault : (stepped 0x08100004 0 State.reset).outputs = ⟨true, true, 4, 0x08100004⟩ := by decide +kernel

theorem test_cwr_cfg :
    (after (.cwr 1 3) (withX 3 0x104 2 0)).cfgK = 4 ∧ (after (.cwr 1 3) (withX 3 0x104 2 0)).cfgBk = .b89 := by
  decide +kernel

theorem test_cwr_pinc : (after (.cwr 3 2) (withX 2 0x10 3 0)).prngInc = 0x11 := by decide +kernel

theorem test_pseed :
    (after (.pseed 1 2) (withX 1 42 2 6)).prngState = 42 ∧ (after (.pseed 1 2) (withX 1 42 2 6)).prngInc = 7 := by
  decide +kernel

theorem test_pnext32 : (after (.pnext32 3) (seeded 0x7D720F6E9086DD63 1)).readX 3 = 0x0C855C84 ∧
    (after (.pnext32 3) (seeded 0x7D720F6E9086DD63 1)).prngState = 0x7800FEC18E280768 := by decide +kernel

theorem test_pnext64 : (after (.pnext64 1) (seeded 0x7800FEC18E280768 1)).readX 1 = 0x306C0038989BF6AF ∧
    (after (.pnext64 1) (seeded 0x7800FEC18E280768 1)).prngState = 0x06619F9C471D84D6 := by decide +kernel

theorem test_mixa64 : (after (.mixa64 2 1) (withX 1 1 2 0)).readX 2 = 0x5BCA7C69B794F8CE := by decide +kernel

theorem test_mixa32 : (after (.mixa32 2 1) (withX 1 0x8000000000000000 2 0)).readX 2 = 1177991625 := by decide +kernel

theorem test_mixb64 : (after (.mixb64 2 1) (withX 1 1 2 0)).readX 2 = 0xB456BCFC34C2CB2C := by decide +kernel

theorem test_vmixa : (after (.vmixa 1 0) (State.reset.writeV 0 [1, 1, 1, 0xFFFFFFFFFFFFFFFF])).readV 1 =
      [0x5BCA7C69B794F8CE, 0x5BCA7C69B794F8CE, 0x5BCA7C69B794F8CE, 0x1F89206E3F8EC794] := by decide +kernel

theorem test_vmixb : (after (.vmixb 2 0) (State.reset.writeV 0 [1, 1, 1, 0xFFFFFFFFFFFFFFFF])).readV 2 =
      [0xB456BCFC34C2CB2C, 0xB456BCFC34C2CB2C, 0xB456BCFC34C2CB2C, 0x64B5720B4B825F21] := by decide +kernel

theorem test_vset : (after (.vset 0 5 3) (withX 5 9 1 0)).readV 0 = [0, 0, 0, 9] := by decide +kernel

theorem test_vset_fault : (stepped 0x2C390004 0 State.reset).outputs = ⟨true, true, 3, 0x2C390004⟩ := by decide +kernel

theorem test_vget : (after (.vget 3 1 2) (State.reset.writeV 1 [7, 8, 9, 10])).readX 3 = 9 := by decide +kernel

theorem test_vget_fault : (stepped 0x2D3100FF 0 State.reset).outputs = ⟨true, true, 3, 0x2D3100FF⟩ := by decide +kernel

theorem test_vbcast : (after (.vbcast 0 1) (withX 1 1 2 0)).readV 0 = [1, 1, 1, 1] := by decide +kernel

theorem test_red61_at_twice_the_modulus :
    (after (.red61 3 1 2) (withX 1 0x3FFFFFFFFFFFFFFE 2 0)).readX 3 = 0 := by decide +kernel

theorem test_red61_all_ones :
    (after (.red61 3 1 2) (withX 1 0xFFFFFFFFFFFFFFFF 2 0xFFFFFFFFFFFFFFFF)).readX 3 = 63 := by decide +kernel

theorem test_mulmod61 :
    (after (.mulmod61 3 1 2) (withX 1 0x0123456789ABCDEF 2 0xFEDCBA9876543210)).readX 3 = 0x0B46A89551204701 := by
  decide +kernel

theorem test_mulmod61_absent :
    (after (.mulmod61 3 1 2) (State.resetOf without61)).outputs = ⟨true, true, 1, 0x31312000⟩ := by decide +kernel

theorem test_fmar89 :
    (after (.fmar89 0 4 1 2) (withQ ⟨0x89ABCDEF, 0x01234567, 0x0155AA55⟩ ⟨0x76543210, 0xFEDCBA98, 0x00AA55AA⟩
      0x0123456789ABCDEF)).readQ 0 = ⟨0xE383DDAC, 0xDC44FB40, 0x030562B2⟩ := by decide +kernel

theorem test_fmar89_overflow : (after (.fmar89 0 4 1 2) (withQ ⟨0xFFFFFFFF, 0xFFFFFFFF, 0xFFFFFFFF⟩ ⟨0, 0, 0xFFFFFFFF⟩
      0xFFFFFFFFFFFFFFFF)).outputs = ⟨true, true, 6, 0x38041200⟩ := by decide +kernel

theorem test_red89 :
    (after (.red89 6 1) (withQ ⟨0xE383DDAC, 0xDC44FB40, 0x030562B2⟩ ⟨0, 0, 0⟩ 0)).readX 6 = 0xDC44FB40E383DDAD := by
  decide +kernel

theorem test_red89_boundary :
    (after (.red89 6 1) (withQ ⟨0xFFFFFFFC, 0xFFFFFFFF, 0x07FFFFFF⟩ ⟨0, 0, 0⟩ 0)).readX 6 = 0 ∧
    (after (.red89 6 1) (withQ ⟨0xFFFFFFFF, 0xFFFFFFFF, 0xFFFFFFFF⟩ ⟨0, 0, 0⟩ 0)).readX 6 = 0x7F := by decide +kernel

theorem test_qset : (after (.qset 2 1 2) (withX 1 0x0123456789ABCDEF 2 0xAAAAAAAA0155AA55)).readQ 2 =
      ⟨0x89ABCDEF, 0x01234567, 0x0155AA55⟩ := by decide +kernel

theorem test_qgetl :
    (after (.qgetl 3 1) (withQ ⟨0x89ABCDEF, 0x01234567, 0x0155AA55⟩ ⟨0, 0, 0⟩ 0)).readX 3 = 0x0123456789ABCDEF := by
  decide +kernel

theorem test_qgeth :
    (after (.qgeth 3 1) (withQ ⟨0x89ABCDEF, 0x01234567, 0x0155AA55⟩ ⟨0, 0, 0⟩ 0)).readX 3 = 0x0155AA55 := by
  decide +kernel

theorem test_cgen_61 : (after .cgen { seeded 137 1 with cfgK := 4 }).readC 1 = ⟨0xA9EB3C1D, 0x05BD571F, 0⟩ ∧
    (after .cgen { seeded 137 1 with cfgK := 4 }).prngState = 0xCC055C6DF558AB81 := by decide +kernel

theorem test_cgen_89 :
    (after .cgen { seeded 137 1 with cfgK := 4, cfgBk := .b89 }).readC 3 = ⟨0x1F40044F, 0xCCD56CDA, 0x00DE9F62⟩ ∧
    (after .cgen { seeded 137 1 with cfgK := 4, cfgBk := .b89 }).prngState = 0xE6D6D65A4BE9779D := by decide +kernel

/-- The Backend 61 instance of 46_poly R207's example, its key in `x4`. -/
def example61 : State :=
  { configured 4 .b61 with coef := [(0, ⟨0x627B7799, 0, 0⟩), (1, ⟨0xA9EB3C1D, 0x05BD571F, 0⟩),
      (2, ⟨0xD5374DD2, 0x1000A680, 0⟩), (3, ⟨0x8E0D6475, 0x06F1C4C3, 0⟩)] }.writeX 4 0x0123456789ABCDEF

/-- The Backend 89 instance of 46_poly R207's example, its key in `x4`. -/
def example89 : State :=
  { configured 4 .b89 with coef := [(0, ⟨0, 0x627B7799, 0x01BD571F⟩), (1, ⟨0xA9EB3C1B, 0xD000A680, 0x01374DCC⟩),
      (2, ⟨0xE6F1C4C3, 0x8E0D646E, 0x00F6CA40⟩), (3, ⟨0x1F40044F, 0xCCD56CDA, 0x00DE9F62⟩)] }.writeX 4 0x0123456789ABCDEF

theorem test_peval_61 : (after (.peval 5 4) example61).readX 5 = 0x119C8FFE7D374ABC := by decide +kernel

theorem test_peval_89 : (after (.peval 5 4) example89).readX 5 = 0xF065E8F2A8E3FAF2 := by decide +kernel

theorem test_cset : (after (.cset 5 2) (withQ ⟨0, 0, 0⟩ ⟨1, 2, 3⟩ 0)).coef = [(5, ⟨1, 2, 3⟩)] := by decide +kernel

theorem test_cset_fault : (stepped 0x42020010 0 State.reset).outputs = ⟨true, true, 3, 0x42020010⟩ := by decide +kernel

theorem test_cget : (after (.cget 0 3) (State.reset.writeC 3 ⟨1, 2, 3⟩)).readQ 0 = ⟨1, 2, 3⟩ := by decide +kernel

theorem test_cget_fault : (stepped 0x43000010 0 State.reset).outputs = ⟨true, true, 3, 0x43000010⟩ := by decide +kernel

theorem test_vpeval : (stepped 0x48000000 0 State.reset).outputs = ⟨true, true, 2, 0x48000000⟩ := by decide +kernel

/-! The step: idle, halted, reset, and a word placed by withFetchWord. -/

theorem test_idle_step : step State.reset = .next State.reset := by rfl

theorem test_halted_refuses :
    (stepped 0x02010000 0 halted).responses = [⟨2, 0⟩, ⟨0xF, 0⟩] ∧ (stepped 0x02010000 0 halted).fcmd = 0x48000000 := by
  decide +kernel

theorem test_reset_leaves_halt :
    step { halted with inputs := [.reset none] } = .next { State.reset with responses := [⟨2, 0⟩] } := by rfl

theorem test_placed_word_runs : step (State.reset.withFetchWord 32 0x02010000) = exec (.rd 1) State.reset := by rfl

/-! Witnesses: for every statement with hypotheses, a state and operands that meet them, at the bounds of each clause. -/

theorem witness_ResetInputGivesTheResetState :
    { halted with inputs := [.reset (some ⟨0, 0⟩)] }.inputs = .reset (some ⟨0, 0⟩) :: [] := by rfl

theorem witness_StepIsTotal : State.reset.inputs = [] ∧ halted.inputs = [] := by exact ⟨rfl, rfl⟩

theorem witness_StepRunsTheDecodedInstruction :
    (State.reset.present ⟨0x02010000, 0⟩).Running ∧
    (State.reset.present ⟨0x02010000, 0⟩).inputs = .command ⟨0x02010000, 0⟩ :: [] ∧ decode ⟨0x02010000, 0⟩ = .ok (.rd 1) := by
  decide +kernel

theorem witness_HaltedBlockRefusesEveryCommand : (halted.present ⟨0x02010000, 0⟩).Halted ∧
    (halted.present ⟨0x02010000, 0⟩).inputs = .command ⟨0x02010000, 0⟩ :: [] := by decide +kernel

theorem witness_HaltedUntilReset :
    (halted.present ⟨0x02010000, 0⟩).Halted ∧
    (halted.present ⟨0x02010000, 0⟩).inputs = [⟨0x02010000, 0⟩].map .command ∧ halted.inputs = [].map .command := by
  decide +kernel

theorem witness_OneResponsePerCommand :
    (State.reset.present ⟨0x02010000, 0⟩).inputs = .command ⟨0x02010000, 0⟩ :: [] ∧
    (stepped 0x02010000 0 (withX 1 5 2 0)).rsp = some ⟨0, 5⟩ ∧ (stepped 0x01100000 7 State.reset).rsp = some ⟨0, 0⟩ ∧
    (stepped 0x00000000 0 State.reset).rsp = some ⟨1, 0⟩ ∧ (stepped 0x02010000 0 halted).rsp = some ⟨0xF, 0⟩ := by
  decide +kernel

theorem witness_FaultEntryIsPrecise : (State.reset.present ⟨0x48000000, 0⟩).Running ∧
    (State.reset.present ⟨0x48000000, 0⟩).inputs = .command ⟨0x48000000, 0⟩ :: [] ∧
    step (State.reset.present ⟨0x48000000, 0⟩) = .next halted ∧ halted.Halted := by exact ⟨rfl, rfl, rfl, rfl⟩

theorem witness_FaultsRaisedAreTheListedOnes :
    State.reset.Running ∧ exec .cgen State.reset = .next (after .cgen State.reset) ∧ (after .cgen State.reset).Halted ∧
    exec (.rd 1) State.reset = .next (after (.rd 1) State.reset) ∧ (after (.rd 1) State.reset).Running := by
  exact ⟨rfl, rfl, rfl, rfl, rfl⟩

theorem witness_StaticChecksAreWellFormedness :
    State.reset.Running ∧ (State.resetOf without61).Running ∧
    Instr.wellFormed (State.resetOf without61).params (.red61 3 1 2) = false ∧
    Instr.wellFormed State.reset.params (.vget 3 1 4) = false ∧ Instr.wellFormed State.reset.params (.vget 3 1 3) = true ∧
    Instr.wellFormed State.reset.params (.cwr 0 1) = false := by
  decide +kernel

theorem witness_EncodeOfDecodeIsTheCommand :
    decode ⟨0x01100000, 7⟩ = .ok (.li 1 7) ∧ decode ⟨0x2D310002, 9⟩ = .ok (.vget 3 1 2) := by decide +kernel

theorem witness_DecodeAcceptsExactlyTheTable :
    ⟨"VGET", 0x2D000000, 0xFF0CFF00⟩ ∈ opcodeRows ∧ (0x2D310002 : U32) &&& 0xFF0CFF00 = 0x2D000000 ∧
    (0x2D340002 : U32) &&& 0xFF0CFF00 ≠ 0x2D000000 := by decide +kernel

theorem witness_UnmatchedWordIsIllegal : (State.reset.present ⟨0x28400000, 0⟩).Running ∧
    (State.reset.present ⟨0x28400000, 0⟩).inputs = .command ⟨0x28400000, 0⟩ :: [] ∧
    ∀ r ∈ opcodeRows, (0x28400000 : U32) &&& r.mask ≠ r.pattern := by decide +kernel

theorem witness_FirstFailingCheckDecides : State.reset.Running ∧ decode ⟨0x28400000, 0⟩ = .error .specifierAbove3 ∧
    decode ⟨0x20210001, 0⟩ = .error .unusedFieldNotZero ∧ decode ⟨0x23210000, 0⟩ = .error .unassignedOpcode ∧
    (stepped 0x48400000 0 State.reset).fcause = 1 ∧ (stepped 0x09110007 0 State.reset).fcause = 1 ∧
    (stepped 0x09010000 0 State.reset).fcause = 4 ∧ State.reset.cfgK = 0 ∧ (configured 0 .b89).Running ∧
    (configured 0 .b89).cfgK = 0 ∧ (stepped 0x40540000 0 (configured 0 .b89)).fcause = 5 := by decide +kernel

/-- A state a run reaches, past reset: `CFG.K = 4` under Backend 89 and one coefficient that is not zero. -/
def built : State := { State.reset with cfgK := 4, cfgBk := .b89, coef := [(3, ⟨1, 2, 3⟩)] }

theorem built_inv : (built.present ⟨0x41000000, 0⟩).Inv where
  params_wf := by decide +kernel
  lanes_ok := by decide +kernel
  inc_odd := by decide +kernel
  cfg_ok := by decide +kernel
  coef_wf := by decide +kernel
  latch_ok := by decide +kernel
  responses_ok := by decide +kernel

theorem witness_StepKeepsTheInvariant : (built.present ⟨0x41000000, 0⟩).Inv ∧
    step (built.present ⟨0x41000000, 0⟩) = .next (stepped 0x41000000 0 built) ∧ (stepped 0x41000000 0 built).Running :=
  ⟨built_inv, rfl, rfl⟩

theorem witness_ResetMeetsTheInvariant :
    Params.default.wf = true ∧ without61.wf = true ∧ without89.wf = true := by decide +kernel

theorem witness_ParametersNeverChange : step (halted.present ⟨0, 0⟩) = .next (stepped 0 0 halted) := by rfl

theorem witness_RegistersChangeOnlyAsDestinations :
    exec (.rd 1) State.reset = .next (after (.rd 1) State.reset) ∧ Instr.destX (.li 1 7) ≠ some 2 ∧
    Instr.destQ (.qset 1 2 3) ≠ some 2 ∧ Instr.destV (.vset 1 2 3) ≠ some 2 := by
  exact ⟨rfl, by decide, by decide, by decide⟩

theorem witness_GeneratorChangesOnlyByItsCommands :
    exec (.cwr 3 1) State.reset = .next (after (.cwr 3 1) State.reset) ∧ Instr.movesGenerator (.cwr 3 1) = false ∧
    Instr.writesIncrement (.cwr 2 1) = false := by exact ⟨rfl, rfl, rfl⟩

theorem witness_CoefficientsChangeOnlyByTheirCommands :
    exec (.cwr 3 1) built = .next (after (.cwr 3 1) built) ∧ Instr.writesCoefs (.cwr 3 1) = false ∧
    ∀ xs, (Instr.cwr 3 1) ≠ .cwr 1 xs := by exact ⟨rfl, rfl, by simp⟩

theorem witness_LiLoadsTheDataWord :
    State.reset.Running ∧ (after (.li 1 7) State.reset).readX 1 = 7 := by decide +kernel

theorem witness_RdDeliversTheRegister :
    State.reset.Running ∧ (after (.rd 1) (withX 1 5 2 0)).rsp = some ⟨0, 5⟩ := by decide +kernel

theorem witness_CrdReadsTheControlRegisters :
    State.reset.Running ∧ (after (.crd 1 0) built).readX 1 = 0x31004 ∧ (after (.crd 1 1) built).readX 1 = 0x104 ∧
    (after (.crd 1 2) (seeded 42 7)).readX 1 = 42 ∧ (after (.crd 1 3) (seeded 42 7)).readX 1 = 7 ∧
    (after (.crd 1 4) built).fcause = 4 ∧ (after (.crd 1 255) built).fcause = 4 := by decide +kernel

theorem witness_HwcfgHasTheFieldsOfTheInstance : Params.wf { Params.default with lanes := 256, kmax := 255 } = true ∧
    hwcfgWord { Params.default with lanes := 256, kmax := 255 } = 0x3FF00 ∧ State.reset.Running := by decide +kernel

theorem witness_CwrWritesTheControlRegisters :
    State.reset.Running ∧ (after (.cwr 1 3) (withX 3 0x010 1 0)).cfgK = 16 ∧ (after (.cwr 1 3) (withX 3 0x110 1 0)).cfgBk = .b89 ∧
    (after (.cwr 1 3) (withX 3 0x011 1 0)).fcause = 5 ∧ (after (.cwr 1 3) (withX 3 0x200 1 0)).fcause = 5 ∧
    (after (.cwr 1 3) (State.resetOf without89 |>.writeX 3 0x100)).fcause = 5 ∧
    (after (.cwr 1 3) (State.resetOf without61)).fcause = 5 ∧ (after (.cwr 2 3) (withX 3 9 1 0)).prngState = 9 ∧
    (after (.cwr 3 3) (withX 3 8 1 0)).prngInc = 9 ∧ (after (.cwr 0 3) State.reset).fcause = 4 ∧
    (after (.cwr 4 3) State.reset).fcause = 4 ∧ (after (.cwr 255 3) State.reset).fcause = 4 := by
  decide +kernel

theorem witness_QsetBuildsALimbTriple :
    State.reset.Running ∧ (after (.qset 3 1 1) (withX 1 0x0123456789ABCDEF 2 0)).readQ 3 = ⟨0x89ABCDEF, 0x01234567, 0x89ABCDEF⟩ := by
  decide +kernel

theorem witness_LimbMovesRoundTrip : State.reset.Running ∧ (1 : XReg) ≠ 2 := by decide +kernel

theorem witness_PseedConstructsTheGenerator :
    State.reset.Running ∧ (after (.pseed 1 1) (withX 1 6 2 0)).prngState = 6 ∧ (after (.pseed 1 1) (withX 1 6 2 0)).prngInc = 7 := by
  decide +kernel

theorem witness_PnextDrawsFromTheGenerator : State.reset.Running ∧ (seeded 42 1).Running := by decide +kernel

theorem witness_Pnext64IsTwoPnext32 : (seeded 0x7D720F6E9086DD63 1).Running := by decide +kernel

theorem witness_DrawsDependOnlyOnTheGenerator : (seeded 42 1).Running ∧ ((seeded 42 1).writeX 1 9).Running ∧
    (∀ i ∈ [Instr.pnext32 1, .pnext64 1], ∃ r, i = .pnext32 r ∨ i = .pnext64 r) ∧
    (seeded 42 1).prngState = ((seeded 42 1).writeX 1 9).prngState ∧
    (seeded 42 1).prngInc = ((seeded 42 1).writeX 1 9).prngInc := by refine ⟨rfl, rfl, ?_, rfl, rfl⟩; simp

theorem witness_ScalarMixersWriteTheirResult : State.reset.Running := by rfl

theorem witness_MixerAIsABijection :
    Params.default.wf = true ∧ Params.wf { Params.default with mixA64Steps := [.xsr 63, .mul 1, .addc 1] } = true := by
  decide +kernel

theorem witness_MixerBIsTheThreeRoundFinalizer :
    State.reset.Running ∧ Params.default.wf = true ∧ Params.wf { Params.default with mixBS1 := 1, mixBS3 := 63 } = true := by
  decide +kernel

theorem witness_VectorMixersMapEveryLane : State.reset.Running := by rfl

theorem witness_ScalarAndVectorMixersAgree :
    ((withX 1 9 2 0).writeV 2 [7, 8, 9, 9]).Running ∧ ((withX 1 9 2 0).writeV 2 [7, 8, 9, 9]).LanesOk ∧
    3 < ((withX 1 9 2 0).writeV 2 [7, 8, 9, 9]).params.lanes ∧
    ((withX 1 9 2 0).writeV 2 [7, 8, 9, 9]).readX 1 = ((withX 1 9 2 0).writeV 2 [7, 8, 9, 9]).readLane 2 3 := by
  decide +kernel

theorem witness_LaneAccessReadsAndWritesOneLane :
    State.reset.Running ∧ State.reset.LanesOk ∧ (after (.vset 1 1 3) (withX 1 9 2 0)).readV 1 = [0, 0, 0, 9] ∧
    (after (.vset 1 1 4) State.reset).fcause = 3 ∧ (after (.vget 1 1 3) State.reset).Running ∧
    (after (.vget 1 1 4) State.reset).fcause = 3 := by decide +kernel

theorem witness_Backend61CommandsWriteTheResidue :
    State.reset.Running ∧ State.reset.params.has61 = true ∧ (State.resetOf without61).Running ∧
    (State.resetOf without61).params.has61 = false := by decide +kernel

theorem witness_FmarIsCongruentToMultiplyAdd :
    fmar89 0xFFFFFFFFFFFFFFFF ⟨0xFFFFFFFF, 0xFFFFFFFF, 0xFFFFFFFF⟩ ⟨0xFFFFFFFF, 0xFFFFFFFF, 0x1FFFFFF⟩ =
      some ⟨0xFFFFFF7E, 0xFFFFFFFF, 0x600007E⟩ ∧ p89 ≤ Limbs.val96 ⟨0xFFFFFF7E, 0xFFFFFFFF, 0x600007E⟩ := by
  decide +kernel

theorem witness_FmarBoundsAndOverflow :
    Limbs.Canonical89 ⟨0xFFFFFFFE, 0xFFFFFFFF, 0x1FFFFFF⟩ ∧ (0x1FFFFFF : U32).toNat < 2 ^ 25 ∧
    ¬ Limbs.Canonical89 ⟨0xFFFFFFFF, 0xFFFFFFFF, 0x1FFFFFF⟩ ∧
    fmar89 0xFFFFFFFFFFFFFFFF ⟨0xFFFFFFFF, 0xFFFFFFFF, 0xFFFFFFFF⟩ ⟨0, 0, 0xFFFFFFFF⟩ = none ∧
    (fmar89 0xFFFFFFFFFFFFFFFF ⟨0xFFFFFFFF, 0xFFFFFFFF, 0xFFFFFFFF⟩ ⟨0xFFFFFFFF, 0xFFFFFFFF, 0xF7FFFF7F⟩).isSome = true ∧
    ∃ b, fmar89 1 ⟨1, 0, 0⟩ ⟨0xFFFFFFFF, 0xFFFFFFFF, 0x1FFFFFF⟩ = some b := by
  exact ⟨by decide +kernel, by decide, by decide +kernel, by decide +kernel, by decide +kernel, _, rfl⟩

theorem witness_FmarCommandWritesOrOverflows :
    (withQ ⟨1, 0, 0⟩ ⟨0, 0, 0xF7FFFF7F⟩ 1).Running ∧ (withQ ⟨1, 0, 0⟩ ⟨0, 0, 0xF7FFFF7F⟩ 1).params.has89 = true ∧
    ((withQ ⟨1, 0, 0⟩ ⟨0, 0, 0xF7FFFF7F⟩ 1).readQ 2).l2.toNat < 0xF7FFFF80 ∧
    fmar89 1 ⟨1, 0, 0⟩ ⟨0, 0, 0xF7FFFF7F⟩ = some ⟨1, 0, 0xF7FFFF7F⟩ ∧
    (State.resetOf without89).Running ∧ (State.resetOf without89).params.has89 = false ∧ State.reset.readX 4 = 0 := by
  decide +kernel

theorem witness_Red89WritesTheLowBitsOfTheResidue :
    State.reset.Running ∧ State.reset.params.has89 = true ∧ (State.resetOf without89).Running ∧
    (State.resetOf without89).params.has89 = false := by decide +kernel

theorem witness_Peval61IsThePolynomial :
    (configured 255 .b61).Running ∧ (configured 255 .b61).cfgK ≠ 0 ∧ (configured 255 .b61).cfgBk = .b61 ∧
    (configured 1 .b61).cfgK ≠ 0 := by decide +kernel

/-- An instance of Backend 89 whose last Horner step overflows. -/
def overflowing : State :=
  { configured 2 .b89 with coef := [(0, ⟨0, 0, 0xFFFFFFFF⟩), (1, ⟨0xFFFFFFFF, 0xFFFFFFFF, 0xFFFFFFFF⟩)] }.writeX 4 0xFFFFFFFFFFFFFFFF

theorem overflowing_inv : overflowing.Inv where
  params_wf := by decide +kernel
  lanes_ok := by decide +kernel
  inc_odd := by decide +kernel
  cfg_ok := by decide +kernel
  coef_wf := by decide +kernel
  latch_ok := by decide +kernel
  responses_ok := by decide +kernel

theorem without61_inv : (State.resetOf without61).Inv where
  params_wf := by decide +kernel
  lanes_ok := by decide +kernel
  inc_odd := by decide +kernel
  cfg_ok := by decide +kernel
  coef_wf := by decide +kernel
  latch_ok := by decide +kernel
  responses_ok := by decide +kernel

theorem witness_ListedFaultsOccur :
    .limbOverflow ∈ Instr.mayRaise (.peval 5 4) ∧ .illegalCommand ∈ Instr.mayRaise (.red61 3 1 2) ∧
    overflowing.Inv ∧ (after (.peval 5 4) overflowing).fcause = 6 ∧
    (State.resetOf without61).Inv ∧ (after (.red61 3 1 2) (State.resetOf without61)).fcause = 1 := by
  exact ⟨by decide, by decide, overflowing_inv, by decide +kernel, without61_inv, by decide +kernel⟩

theorem witness_Peval89IsThePolynomialOrOverflows :
    (configured 1 .b89).Running ∧ (configured 1 .b89).cfgK ≠ 0 ∧ (configured 1 .b89).cfgBk = .b89 ∧
    (after (.peval 5 4) (configured 1 .b89)).Running ∧ (after (.peval 5 4) overflowing).fcause = 6 := by decide +kernel

theorem witness_NoInstanceIsAConfigFault :
    State.reset.Running ∧ State.reset.cfgK = 0 ∧ (configured 0 .b89).Running ∧ (configured 0 .b89).cfgK = 0 := by
  decide +kernel

theorem witness_CgenDrawsTheCoefficientSet :
    built.Running ∧ built.cfgK ≠ 0 ∧ built.coef.wf built.params.kmax ∧ built.cfgBk = .b89 ∧
    (configured 4 .b61).Running ∧ (configured 4 .b61).coef.wf (configured 4 .b61).params.kmax ∧ (configured 4 .b61).cfgK ≠ 0 := by
  decide +kernel

theorem witness_GeneratedCoefficientsNeverOverflow :
    built.Running ∧ built.cfgK ≠ 0 ∧ built.coef.wf built.params.kmax ∧ (configured 16 .b61).cfgK ≠ 0 ∧
    (configured 16 .b61).Running ∧ (configured 16 .b61).coef.wf (configured 16 .b61).params.kmax := by decide +kernel

theorem witness_CsetWritesOneEntryCgetReadsOne :
    built.Running ∧ built.coef.wf built.params.kmax ∧ (after (.cset 15 1) built).Running ∧
    (after (.cset 16 1) built).fcause = 3 ∧ (after (.cget 1 15) built).Running ∧ (after (.cget 1 16) built).fcause = 3 := by
  decide +kernel

theorem witness_VpevalAlwaysRaisesUnsupported :
    State.reset.Running ∧ (after (.vpeval 3 3) State.reset).fcause = 2 := by decide +kernel

theorem witness_PevalIsAFunctionOfTheInstance :
    (configured 1 .b61).Running ∧ ((configured 1 .b61).writeC 1 ⟨1, 0, 0⟩).Running ∧
    (configured 1 .b61).cfgK = ((configured 1 .b61).writeC 1 ⟨1, 0, 0⟩).cfgK ∧
    (configured 1 .b61).cfgBk = ((configured 1 .b61).writeC 1 ⟨1, 0, 0⟩).cfgBk ∧
    (∀ i, i < (configured 1 .b61).cfgK.toNat →
      (configured 1 .b61).readC i = ((configured 1 .b61).writeC 1 ⟨1, 0, 0⟩).readC i) ∧
    (configured 1 .b61).readX 4 = ((configured 1 .b61).writeC 1 ⟨1, 0, 0⟩).readX 4 := by decide +kernel

theorem witness_ConstructionIsDeterministic :
    (withX 1 0x104 2 42).Running ∧ (built.writeX 1 0x104 |>.writeX 2 42).Running ∧
    (withX 1 0x104 2 42).params = (built.writeX 1 0x104 |>.writeX 2 42).params ∧ (withX 1 0x104 2 42).params.wf = true ∧
    (withX 1 0x104 2 42).readX 1 = (built.writeX 1 0x104 |>.writeX 2 42).readX 1 ∧
    (withX 1 0x104 2 42).readX 2 = (built.writeX 1 0x104 |>.writeX 2 42).readX 2 ∧
    (withX 1 0x104 2 42).readX 3 = (built.writeX 1 0x104 |>.writeX 2 42).readX 3 ∧
    cfgLegal (withX 1 0x104 2 42).params ((withX 1 0x104 2 42).readX 1) = true ∧
    ((withX 1 0x104 2 42).readX 1).toNat % 2 ^ 8 ≠ 0 := by decide +kernel

end Sys2Proof.Tests
end

/-! Proofs of the family 10_state: the reset state (10_state R33) and the control register `HWCFG` (10_state R27). -/

namespace Sys2Proof

/-- The bound of 00_scope R5 on `KMAX`: it fits the 8-bit field of `HWCFG`. -/
theorem Params.kmax_le_of_wf {p : Params} (h : p.wf = true) : p.kmax ≤ 255 := by
  simp only [Params.wf, Bool.and_eq_true, decide_eq_true_eq] at h
  omega

end Sys2Proof

namespace Sys2Proof.Machine

section ResetState

variable (p : Params)

@[simp] theorem State.resetOf_params : (State.resetOf p).params = p := rfl
@[simp] theorem State.resetOf_prngState : (State.resetOf p).prngState = 0 := rfl
@[simp] theorem State.resetOf_prngInc : (State.resetOf p).prngInc = 1 := rfl
@[simp] theorem State.resetOf_cfgK : (State.resetOf p).cfgK = 0 := rfl
@[simp] theorem State.resetOf_cfgBk : (State.resetOf p).cfgBk = resetBackend p := rfl
@[simp] theorem State.resetOf_coef : (State.resetOf p).coef = Memory.cleared := rfl
@[simp] theorem State.resetOf_fault : (State.resetOf p).fault = false := rfl
@[simp] theorem State.resetOf_fcause : (State.resetOf p).fcause = 0 := rfl
@[simp] theorem State.resetOf_fcmd : (State.resetOf p).fcmd = 0 := rfl

/-- Every entry of the coefficient memory is `(0, 0, 0)` after reset (10_state R33). -/
@[simp] theorem State.readC_resetOf (i : Nat) : (State.resetOf p).readC i = Limbs.zero := by
  rw [State.readC, State.resetOf_coef, Memory.read_cleared]

end ResetState

/-- Control register 0 is `HWCFG`, a function of the configuration alone (10_state R26, R27). -/
@[simp] theorem State.readCsr_hwcfg (s : State) : s.readCsr 0 = some (hwcfgWord s.params) := rfl

/-- A concatenation as a number: the upper part counts multiples of `2 ^ n`. -/
theorem toNat_append_eq_add {m n : Nat} (hi : BitVec m) (lo : BitVec n) :
    (hi ++ lo).toNat = 2 ^ n * hi.toNat + lo.toNat := by
  rw [BitVec.toNat_append, ← Nat.shiftLeft_add_eq_or_of_lt lo.isLt, Nat.shiftLeft_eq, Nat.mul_comm]

/-- `HWCFG` as a number for any parameter set: each field by the weight of its lowest bit (10_state R27). -/
theorem hwcfgWord_toNat (p : Params) :
    (hwcfgWord p).toNat =
      p.lanes % 2 ^ 8 + 2 ^ 8 * (p.kmax % 2 ^ 8) + 2 ^ 16 * p.has61.toNat + 2 ^ 17 * p.has89.toNat := by
  simp only [hwcfgWord, toNat_append_eq_add, BitVec.ofNat_eq_ofNat, BitVec.toNat_ofBool, BitVec.toNat_ofNat]
  omega

/-- `CWR` executes as its definition in the move and system unit (47_move_system R233). -/
theorem exec_cwr (csr : Imm) (xs : XReg) (s : State) : exec (.cwr csr xs) s = execCwr csr xs s := rfl

/-- `HWCFG` is read-only: a `CWR` to it is an access fault, whatever the value (10_state R27). -/
theorem execCwr_hwcfg (xs : XReg) (s : State) : execCwr 0 xs s = trap .csrAccess (.cwr 0 xs) s := rfl

/-- Settles O28: the fields of `HWCFG` as a number, `KMAX` fitting its field, and the trap of a `CWR` to it. -/
theorem hwcfgHasTheFieldsOfTheInstance : Obligations.HwcfgHasTheFieldsOfTheInstance := by
  refine ⟨fun p hwf => ?_, by decide, fun s xs _ => ?_⟩
  · have hkmax : p.kmax % 2 ^ 8 = p.kmax :=
      Nat.mod_eq_of_lt (Nat.lt_succ_of_le (Params.kmax_le_of_wf hwf))
    simp only [hwcfgWord_toNat, hkmax, Bool.toNat, Bool.cond_eq_ite, mul_ite, mul_one, mul_zero]
  · rw [exec_cwr, execCwr_hwcfg, trap_eq, raise_eq_faulted, causeCode]

/-- Settles O1: one reset lemma for each row of the table of 10_state R33. -/
theorem resetStateIsTheSpecifiedOne : Obligations.ResetStateIsTheSpecifiedOne := by
  refine ⟨fun p => ?_, rfl⟩
  exact ⟨State.readX_resetOf p, State.readQ_resetOf p, State.readV_resetOf p, State.readC_resetOf p,
    State.resetOf_prngState p, State.resetOf_prngInc p, State.resetOf_cfgK p, State.resetOf_cfgBk p,
    State.resetOf_fault p, State.resetOf_fcause p, State.resetOf_fcmd p,
    by rw [State.readCsr_hwcfg, State.resetOf_params]⟩

end Sys2Proof.Machine

/-! Proofs of the family 30_encoding: a command as a transaction with one response (30_encoding R71). -/

namespace Sys2Proof.Machine

section KeepsInterface

/-- `t` differs from `s` at most in the registers, the generator, `CFG` and `C`: the configuration, the fault latch, what
the host presents and the responses are as they were. -/
structure State.KeepsInterface (s t : State) : Prop where
  params : t.params = s.params
  fault : t.fault = s.fault
  fcause : t.fcause = s.fcause
  fcmd : t.fcmd = s.fcmd
  inputs : t.inputs = s.inputs
  rsp : t.rsp = s.rsp
  responses : t.responses = s.responses

namespace State.KeepsInterface

theorem refl (s : State) : s.KeepsInterface s := ⟨rfl, rfl, rfl, rfl, rfl, rfl, rfl⟩

theorem trans {s t u : State} (hst : s.KeepsInterface t) (htu : t.KeepsInterface u) : s.KeepsInterface u where
  params := htu.params.trans hst.params
  fault := htu.fault.trans hst.fault
  fcause := htu.fcause.trans hst.fcause
  fcmd := htu.fcmd.trans hst.fcmd
  inputs := htu.inputs.trans hst.inputs
  rsp := htu.rsp.trans hst.rsp
  responses := htu.responses.trans hst.responses

variable (s : State)

theorem writeX (r : XReg) (w : U64) : s.KeepsInterface (s.writeX r w) := ⟨rfl, rfl, rfl, rfl, rfl, rfl, rfl⟩

theorem writeQ (r : QReg) (t : Limbs) : s.KeepsInterface (s.writeQ r t) := ⟨rfl, rfl, rfl, rfl, rfl, rfl, rfl⟩

theorem writeV (r : VReg) (l : List U64) : s.KeepsInterface (s.writeV r l) := ⟨rfl, rfl, rfl, rfl, rfl, rfl, rfl⟩

theorem writeLane (r : VReg) (j : Nat) (w : U64) : s.KeepsInterface (s.writeLane r j w) := writeV s r _

theorem writeC (i : Nat) (t : Limbs) : s.KeepsInterface (s.writeC i t) := ⟨rfl, rfl, rfl, rfl, rfl, rfl, rfl⟩

theorem writePrngState (w : U64) : s.KeepsInterface (s.writePrngState w) := ⟨rfl, rfl, rfl, rfl, rfl, rfl, rfl⟩

theorem writeInc (w : U64) : s.KeepsInterface (s.writeInc w) := ⟨rfl, rfl, rfl, rfl, rfl, rfl, rfl⟩

theorem writeCfg (w : U64) : s.KeepsInterface (s.writeCfg w) := ⟨rfl, rfl, rfl, rfl, rfl, rfl, rfl⟩

theorem next32 : s.KeepsInterface (Machine.next32 s).2 := writePrngState s _

theorem next64 : s.KeepsInterface (Machine.next64 s).2 := writePrngState s _

theorem genCoefs (n i : Nat) : s.KeepsInterface (Machine.genCoefs n i s) := by
  rw [genCoefs_frame]
  exact ⟨rfl, rfl, rfl, rfl, rfl, rfl, rfl⟩

end State.KeepsInterface

end KeepsInterface

section ExecAnswers

/-- The data of the response of `i` when it executes: the register `RD` reads, 0 for every other command (30_encoding
R71). -/
def rspData (i : Instr) (s : State) : U64 :=
  match i with
  | .rd xs => s.readX xs
  | _ => 0

@[simp] theorem rspData_rd (xs : XReg) (s : State) : rspData (.rd xs) s = s.readX xs := rfl

theorem rspData_of_ne_rd {i : Instr} (h : ∀ xs, i ≠ .rd xs) (s : State) : rspData i s = 0 := by
  cases i with
  | rd xs => exact absurd rfl (h xs)
  | _ => rfl

/-- What an executed command can answer: it completes with its one response, the interface otherwise as it was, or it
takes one of the faults listed for it. -/
def Answers (i : Instr) (s : State) (o : Host.Outcome State Fault Refusal) : Prop :=
  (∃ t, s.KeepsInterface t ∧ o = finishWith t (rspData i s)) ∨ ∃ c ∈ i.mayRaise, o = trap c i s

variable {i : Instr} {s t : State} {c : Cause}

theorem Answers.of_finish (hd : rspData i s = 0) (ht : s.KeepsInterface t) : Answers i s (finish t) :=
  .inl ⟨t, ht, by rw [hd, finish]⟩

theorem Answers.of_trap (hc : c ∈ i.mayRaise) : Answers i s (trap c i s) := .inr ⟨c, hc, rfl⟩

/-- The shape of most commands that can fault: a guard, then completion or one fault. -/
theorem Answers.of_guard {p : Prop} [Decidable p] (hd : rspData i s = 0) (ht : s.KeepsInterface t)
    (hc : c ∈ i.mayRaise) : Answers i s (if p then finish t else trap c i s) := by
  split
  · exact .of_finish hd ht
  · exact .of_trap hc

theorem execCrd_answers (xd : XReg) (csr : Imm) (s : State) : Answers (.crd xd csr) s (execCrd xd csr s) := by
  unfold execCrd
  split
  · exact .of_finish rfl (.writeX ..)
  · exact .of_trap (by simp [Instr.mayRaise])

theorem execCwr_answers (csr : Imm) (xs : XReg) (s : State) : Answers (.cwr csr xs) s (execCwr csr xs s) := by
  unfold execCwr
  split
  · exact .of_guard rfl (.writeCfg ..) (by simp [Instr.mayRaise])
  · exact .of_finish rfl (.writePrngState ..)
  · exact .of_finish rfl (.writeInc ..)
  · exact .of_trap (by simp [Instr.mayRaise])

theorem execFmar89_answers (qd : QReg) (xs : XReg) (qa qb : QReg) (s : State) :
    Answers (.fmar89 qd xs qa qb) s (execFmar89 qd xs qa qb s) := by
  unfold execFmar89
  split
  · split
    · exact .of_finish rfl (.writeQ ..)
    · exact .of_trap (by simp [Instr.mayRaise])
  · exact .of_trap (by simp [Instr.mayRaise])

theorem execPeval_answers (xd xs : XReg) (s : State) : Answers (.peval xd xs) s (execPeval xd xs s) := by
  unfold execPeval
  split
  · exact .of_trap (by simp [Instr.mayRaise])
  · split
    · exact .of_finish rfl (.writeX ..)
    · exact .of_trap (by simp [Instr.mayRaise])

theorem execCgen_answers (s : State) : Answers .cgen s (execCgen s) := by
  unfold execCgen
  split
  · exact .of_trap (by simp [Instr.mayRaise])
  · exact .of_finish rfl (.genCoefs ..)

/-- All a command can answer, whatever the state: the one inversion of `exec` (30_encoding R71, 60_exceptions R252). -/
theorem exec_answers (i : Instr) (s : State) : Answers i s (exec i s) := by
  cases i with
  | li xd value => exact .of_finish rfl (.writeX ..)
  | rd xs => exact .inl ⟨s, .refl s, rfl⟩
  | crd xd csr => exact execCrd_answers xd csr s
  | cwr csr xs => exact execCwr_answers csr xs s
  | pseed xa xb => exact .of_finish rfl (.trans (.writePrngState ..) (.writeInc ..))
  | pnext32 xd => exact .of_finish rfl (.trans (.next32 s) (.writeX ..))
  | pnext64 xd => exact .of_finish rfl (.trans (.next64 s) (.writeX ..))
  | mixa64 xd xs => exact .of_finish rfl (.writeX ..)
  | mixa32 xd xs => exact .of_finish rfl (.writeX ..)
  | mixb64 xd xs => exact .of_finish rfl (.writeX ..)
  | vmixa vd vs => exact .of_finish rfl (.writeV ..)
  | vmixb vd vs => exact .of_finish rfl (.writeV ..)
  | vset vd xs lane => exact .of_guard rfl (.writeLane ..) (List.mem_singleton_self _)
  | vget xd vs lane => exact .of_guard rfl (.writeX ..) (List.mem_singleton_self _)
  | vbcast vd xs => exact .of_finish rfl (.writeV ..)
  | red61 xd xlo xhi => exact .of_guard rfl (.writeX ..) (List.mem_singleton_self _)
  | mulmod61 xd xa xb => exact .of_guard rfl (.writeX ..) (List.mem_singleton_self _)
  | fmar89 qd xs qa qb => exact execFmar89_answers qd xs qa qb s
  | red89 xd qs => exact .of_guard rfl (.writeX ..) (List.mem_singleton_self _)
  | qset qd xlo xhi => exact .of_finish rfl (.writeQ ..)
  | qgetl xd qs => exact .of_finish rfl (.writeX ..)
  | qgeth xd qs => exact .of_finish rfl (.writeX ..)
  | peval xd xs => exact execPeval_answers xd xs s
  | cgen => exact execCgen_answers s
  | cset idx qs => exact .of_guard rfl (.writeC ..) (List.mem_singleton_self _)
  | cget qd idx => exact .of_guard rfl (.writeQ ..) (List.mem_singleton_self _)
  | vpeval vd vs => exact .of_trap (List.mem_singleton_self _)

end ExecAnswers

section CommandStep

variable {s : State} {c : Command} {rest : List HostInput}

/-- A halted block refuses the command without decoding it (60_exceptions R255). -/
theorem step_command_halted (hin : s.inputs = .command c :: rest) (hs : s.Halted) :
    step s = .next { s with inputs := rest }.refuseHalted := by
  simp only [step_eq, front, hin, acceptCommand, hs, if_true]

/-- A running block takes `IllegalCommand` on a word of no row (30_encoding R79). -/
theorem step_command_illegal {e : DecodeError} (hin : s.inputs = .command c :: rest) (hs : s.Running)
    (hd : decode c = .error e) : step s = .next ({ s with inputs := rest }.raise .illegalCommand c.word) := by
  simp only [step_eq, front, hin, acceptCommand, hs, hd, Bool.false_eq_true, if_false]

/-- A running block executes the command its word decodes to (30_encoding R78). -/
theorem step_command_decoded {i : Instr} (hin : s.inputs = .command c :: rest) (hs : s.Running)
    (hd : decode c = .ok i) : step s = exec i { s with inputs := rest } := by
  simp only [step_eq, front, hin, acceptCommand, hs, hd, Bool.false_eq_true, if_false]

/-- The three ends of an accepted command (30_encoding R71): refused by a halted block, a fault, or executed. -/
theorem step_command_cases (hin : s.inputs = .command c :: rest) :
    (s.Halted ∧ step s = .next { s with inputs := rest }.refuseHalted) ∨
    (s.Running ∧ ∃ cause w, step s = .next ({ s with inputs := rest }.raise cause w)) ∨
    (s.Running ∧ ∃ i t, decode c = .ok i ∧ { s with inputs := rest }.KeepsInterface t ∧
      step s = .next (t.respond statusOk (rspData i s))) := by
  by_cases hs : s.Halted
  · exact .inl ⟨hs, step_command_halted hin hs⟩
  · have hrun : s.Running := Bool.eq_false_of_not_eq_true hs
    refine .inr ?_
    cases hd : decode c with
    | error e => exact .inl ⟨hrun, _, _, step_command_illegal hin hrun hd⟩
    | ok i =>
      have hstep := step_command_decoded hin hrun hd
      rcases exec_answers i { s with inputs := rest } with ⟨t, ht, hexec⟩ | ⟨cause, -, hexec⟩
      · exact .inr ⟨hrun, i, t, rfl, ht, hstep.trans hexec⟩
      · exact .inl ⟨hrun, cause, _, hstep.trans hexec⟩

end CommandStep

/-- The status of a faulting command is not the one of a command that executed (30_encoding R71). -/
theorem causeCode_ne_statusOk (c : Cause) : causeCode c ≠ statusOk := by
  cases c <;> decide

/-- Settles O7: each of the three ends of a command fixes the status and the data of its one response. -/
theorem oneResponsePerCommand : Obligations.OneResponsePerCommand := by
  intro s c rest hin
  rcases step_command_cases hin with ⟨hs, hstep⟩ | ⟨hs, cause, w, hstep⟩ | ⟨hs, i, t, hd, ht, hstep⟩
  · refine ⟨_, ⟨statusHalted, 0⟩, hstep, rfl, rfl, rfl, .inr (.inr ⟨rfl, hs⟩), ?_, fun _ => rfl⟩
    exact fun _ h0 => absurd h0 (by decide)
  · have ⟨hlo, hhi⟩ := causeCode_range cause
    refine ⟨_, ⟨causeCode cause, 0⟩, hstep, rfl, rfl, rfl, .inr (.inl ⟨hlo, hhi, hs, rfl, rfl⟩), ?_, fun _ => rfl⟩
    exact fun _ h0 => absurd h0 (causeCode_ne_statusOk cause)
  · refine ⟨_, ⟨statusOk, rspData i s⟩, hstep, ht.inputs, rfl, ?_, .inl ⟨rfl, hs, ht.fault.trans hs⟩, ?_, ?_⟩
    · rw [State.respond_responses, ht.responses]
    · intro xs _ hrd
      obtain rfl : i = .rd xs := Except.ok.inj (hd.symm.trans hrd)
      exact rspData_rd xs s
    · rintro (h0 | hrd)
      · exact absurd rfl h0
      · exact rspData_of_ne_rd (fun xs hi => hrd xs (hi ▸ hd)) s

end Sys2Proof.Machine

/-! Proofs of the family 41_prng: what a draw writes to its register and how far it advances `STATE` (41_prng R104,
R105). -/

namespace Sys2Proof.Machine

section Draws

variable (s : State) (d : XReg)

/-- The first draw of a state is draw number 0 (41_prng R101). -/
theorem next32_fst_eq_drawNumber : (next32 s).1 = s.drawNumber 0 := next32_fst s

/-- Two draws are draws number 0 and 1, the first one in the upper half (41_prng R102). -/
theorem next64_fst_eq_drawNumber : (next64 s).1 = s.drawNumber 0 ++ s.drawNumber 1 := next64_fst s

/-- `PNEXT32` executes as its definition in the generator (41_prng R104). -/
theorem exec_pnext32 : exec (.pnext32 d) s = execPnext32 d s := rfl

/-- `PNEXT64` executes as its definition in the generator (41_prng R105). -/
theorem exec_pnext64 : exec (.pnext64 d) s = execPnext64 d s := rfl

/-- `PNEXT32` as two register updates: `STATE` one step on, draw number 0 zero-extended in `x[d]` (41_prng R104). -/
theorem execPnext32_eq :
    execPnext32 d s =
      finish ((s.writePrngState (prngAfter s.prngInc 1 s.prngState)).writeX d ((s.drawNumber 0).setWidth 64)) := by
  rw [execPnext32, next32_snd, next32_fst_eq_drawNumber, zext64]

/-- `PNEXT64` as two register updates: `STATE` two steps on, draws number 0 and 1 in `x[d]` (41_prng R105). -/
theorem execPnext64_eq :
    execPnext64 d s =
      finish ((s.writePrngState (prngAfter s.prngInc 2 s.prngState)).writeX d (s.drawNumber 0 ++ s.drawNumber 1)) := by
  rw [execPnext64, next64_snd, next64_fst_eq_drawNumber]

/-- A command that completes after a write of `STATE` and of `x[d]` changes these two and answers once. -/
theorem finish_writePrngState_writeX (g w : U64) :
    finish ((s.writePrngState g).writeX d w) =
      .next ({ s with prngState := g, x := s.x.set d.toNat w d.isLt }.answered ⟨0, 0⟩) := by
  rw [finish_eq, respond_eq_answered, statusOk, State.writeX, State.writePrngState]

end Draws

/-- Settles O34: each draw command as its two register updates, which are all that completing it changes. -/
theorem pnextDrawsFromTheGenerator : Obligations.PnextDrawsFromTheGenerator := by
  intro s d _
  refine ⟨by rw [encodeWord, encodeFields], ?_, by rw [encodeWord, encodeFields], ?_⟩
  · rw [exec_pnext32, execPnext32_eq, finish_writePrngState_writeX]
  · rw [exec_pnext64, execPnext64_eq, finish_writePrngState_writeX]

end Sys2Proof.Machine

/-! Proofs of the family 42_mixers: the steps of Mixer A in closed form (42_mixers R121) and the scalar commands that write a
mixed register (42_mixers R125, R126). -/

namespace Sys2Proof.Machine

section MixerASteps

variable {n : Nat} (x : BitVec n)

/-- The complement in the ring of `n`-bit words. -/
theorem not_eq_neg_sub_one : ~~~x = -x - 1 := BitVec.not_eq_neg_add x

/-- A left shift is the product by the power of two, at every shift amount: both are 0 from the width on. -/
theorem shiftLeft_eq_mul_ofNat_two_pow (s : Nat) : x <<< s = x * BitVec.ofNat n (2 ^ s) := by
  rw [BitVec.shiftLeft_eq_mul_twoPow]
  congr 1
  exact BitVec.eq_of_toNat_eq (by rw [BitVec.toNat_twoPow, BitVec.toNat_ofNat])

/-- A logical right shift is the quotient by the power of two. -/
theorem ushiftRight_eq_ofNat_div (s : Nat) : x >>> s = BitVec.ofNat n (x.toNat / 2 ^ s) := by
  rw [← Nat.shiftRight_eq_div_pow, ← BitVec.toNat_ushiftRight, BitVec.ofNat_toNat, BitVec.setWidth_eq]

/-- Complement, shift, add: the complement is `-x - 1`, the shift `2 ^ s` times `x` (42_mixers R121). -/
theorem applyStep_cadd (s : Nat) : applyStep n (.cadd s) x = (BitVec.ofNat n (2 ^ s) - 1) * x - 1 :=
  calc ~~~x + x <<< s
    _ = (-x - 1) + x * BitVec.ofNat n (2 ^ s) := by rw [not_eq_neg_sub_one, shiftLeft_eq_mul_ofNat_two_pow]
    _ = (BitVec.ofNat n (2 ^ s) - 1) * x - 1 := by ring

/-- Shift, complement, add: the complement is now of the shifted word (42_mixers R121). -/
theorem applyStep_addc (s : Nat) : applyStep n (.addc s) x = (1 - BitVec.ofNat n (2 ^ s)) * x - 1 :=
  calc x + ~~~(x <<< s)
    _ = x + (-(x * BitVec.ofNat n (2 ^ s)) - 1) := by rw [not_eq_neg_sub_one, shiftLeft_eq_mul_ofNat_two_pow]
    _ = (1 - BitVec.ofNat n (2 ^ s)) * x - 1 := by ring

/-- Xor with the quotient by `2 ^ s` (42_mixers R121). -/
theorem applyStep_xsr (s : Nat) : applyStep n (.xsr s) x = x ^^^ BitVec.ofNat n (x.toNat / 2 ^ s) := by
  rw [applyStep, ushiftRight_eq_ofNat_div]

/-- The wrapping product by a constant of any size (42_mixers R121). -/
theorem applyStep_mul (c : Nat) : applyStep n (.mul c) x = BitVec.ofNat n (x.toNat * c) := by
  rw [applyStep, BitVec.ofNat_mul, BitVec.ofNat_toNat, BitVec.setWidth_eq]

/-- A step list is a left fold: the first step is applied to the word, the next to its result (42_mixers R121). -/
theorem applySteps_eq_foldl (l : List MixStep) : applySteps n l x = l.foldl (fun y step => applyStep n step y) x := by
  induction l generalizing x with
  | nil => rfl
  | cons step rest ih => rw [applySteps, List.foldl_cons, ih]

end MixerASteps

/-- Settles O38: one closed form for each of the four steps, and a list of them as a left fold. -/
theorem mixerAStepsHaveTheirClosedForms : Obligations.MixerAStepsHaveTheirClosedForms :=
  fun _ x => ⟨applyStep_cadd x, applyStep_addc x, applyStep_xsr x, applyStep_mul x, applySteps_eq_foldl x⟩

section ScalarMixers

variable (s : State) (d r : XReg)

/-- `lo32` of a register is its truncation to 32 bits (00_scope R11). -/
theorem lo32_eq_setWidth (v : U64) : lo32 v = v.setWidth 32 :=
  (BitVec.setWidth_eq_extractLsb' (by decide)).symm

/-- A command that completes after a write of `x[d]` changes this register and answers once. -/
theorem finish_writeX (w : U64) :
    finish (s.writeX d w) = .next ({ s with x := s.x.set d.toNat w d.isLt }.answered ⟨0, 0⟩) := by
  rw [finish_eq, respond_eq_answered, statusOk, State.writeX]

/-- `MIXA64` executes as its definition in the mixer unit (42_mixers R125). -/
theorem exec_mixa64 : exec (.mixa64 d r) s = execMixa64 d r s := rfl

/-- `MIXA32` executes as its definition in the mixer unit (42_mixers R126). -/
theorem exec_mixa32 : exec (.mixa32 d r) s = execMixa32 d r s := rfl

end ScalarMixers

/-- Settles O37: each command is one write of `x[d]`, the mixed value being read before it, so that `d = r` is no
special case. -/
theorem scalarMixersWriteTheirResult : Obligations.ScalarMixersWriteTheirResult := by
  intro s d r _
  refine ⟨by rw [encodeWord, encodeFields], ?_, by rw [encodeWord, encodeFields], ?_⟩
  · rw [exec_mixa64, execMixa64, finish_writeX]
  · rw [exec_mixa32, execMixa32, finish_writeX, lo32_eq_setWidth, zext64]

end Sys2Proof.Machine

/-! Proofs of the family 43_vector_mixers: the lane-parallel mixers (43_vector_mixers R141, R142) and the access to lanes
(43_vector_mixers R144, R145, R146). -/

namespace Sys2Proof.Machine

section WriteLane

variable (s : State) (r : VReg) (w : U64)

/-- A register with one lane written: its list of lanes with this one replaced (43_vector_mixers R144). -/
@[simp] theorem State.readV_writeLane_same (j : Nat) : (s.writeLane r j w).readV r = (s.readV r).set j w := by
  rw [State.writeLane_eq, State.readV_writeV_same]

/-- A lane write keeps the number of lanes, in range or not. -/
theorem State.length_readV_writeLane (j : Nat) : ((s.writeLane r j w).readV r).length = (s.readV r).length := by
  rw [State.readV_writeLane_same, List.length_set]

/-- A lane of the register that was written reads the word written. -/
theorem State.readLane_writeLane_same {j : Nat} (hj : j < (s.readV r).length) :
    (s.writeLane r j w).readLane r j = w := by
  rw [State.readLane, State.readV_writeLane_same, List.getD_eq_getElem?_getD, List.getElem?_set_self hj, Option.getD_some]

/-- A lane write leaves the other lanes of its register alone. -/
theorem State.readLane_writeLane_of_ne {j k : Nat} (hk : k ≠ j) :
    (s.writeLane r j w).readLane r k = s.readLane r k := by
  rw [State.readLane, State.readV_writeLane_same, List.getD_eq_getElem?_getD, List.getElem?_set_ne hk.symm,
    ← List.getD_eq_getElem?_getD, State.readLane]

end WriteLane

section VectorCommands

variable (s : State) (vd vs : VReg) (xd xs : XReg)

/-- A command that completes after a write of `v[vd]` changes this register and answers once. -/
theorem finish_writeV (l : List U64) :
    finish (s.writeV vd l) = .next ({ s with v := s.v.set vd.toNat l vd.isLt }.answered ⟨0, 0⟩) := by
  rw [finish_eq, respond_eq_answered, statusOk, State.writeV]

/-- A command that completes after a write of one lane changes only the register of this lane. -/
theorem finish_writeLane (j : Nat) (w : U64) :
    finish (s.writeLane vd j w) =
      .next ({ s with v := s.v.set vd.toNat ((s.writeLane vd j w).readV vd) vd.isLt }.answered ⟨0, 0⟩) := by
  rw [State.readV_writeLane_same, State.writeLane_eq, finish_writeV]

/-- `VMIXA` executes as its definition in the vector unit (43_vector_mixers R141). -/
theorem exec_vmixa : exec (.vmixa vd vs) s = execVmixa vd vs s := rfl

/-- `VMIXB` executes as its definition in the vector unit (43_vector_mixers R142). -/
theorem exec_vmixb : exec (.vmixb vd vs) s = execVmixb vd vs s := rfl

/-- `VBCAST` executes as its definition in the vector unit (43_vector_mixers R146). -/
theorem exec_vbcast : exec (.vbcast vd xs) s = execVbcast vd xs s := rfl

variable {s} {lane : Imm}

/-- The check of a lane index (30_encoding R75) as a bound. -/
theorem laneInRange_iff : laneInRange s lane = true ↔ lane.toNat < s.params.lanes := decide_eq_true_iff

/-- `VSET` in range writes its lane (43_vector_mixers R144). -/
theorem exec_vset_of_lt (h : lane.toNat < s.params.lanes) :
    exec (.vset vd xs lane) s = finish (s.writeLane vd lane.toNat (s.readX xs)) :=
  if_pos (laneInRange_iff.mpr h)

/-- `VSET` out of range faults (43_vector_mixers R144). -/
theorem exec_vset_of_le (h : s.params.lanes ≤ lane.toNat) :
    exec (.vset vd xs lane) s = trap .indexRange (.vset vd xs lane) s :=
  if_neg (mt laneInRange_iff.mp h.not_gt)

/-- `VGET` in range reads its lane (43_vector_mixers R145). -/
theorem exec_vget_of_lt (h : lane.toNat < s.params.lanes) :
    exec (.vget xd vs lane) s = finish (s.writeX xd (s.readLane vs lane.toNat)) :=
  if_pos (laneInRange_iff.mpr h)

/-- `VGET` out of range faults (43_vector_mixers R145). -/
theorem exec_vget_of_le (h : s.params.lanes ≤ lane.toNat) :
    exec (.vget xd vs lane) s = trap .indexRange (.vget xd vs lane) s :=
  if_neg (mt laneInRange_iff.mp h.not_gt)

end VectorCommands

/-- Settles O44: in range, `VSET` is one lane write and `VGET` one lane read; out of range both take the same fault.
`VBCAST`, which has no lane index, is one write of the whole register. -/
theorem laneAccessReadsAndWritesOneLane : Obligations.LaneAccessReadsAndWritesOneLane := by
  intro s vd r lane _ hlanes
  refine ⟨by rw [encodeWord, encodeFields], by rw [encodeWord, encodeFields], by rw [encodeWord, encodeFields],
    fun hlt => ⟨⟨(s.writeLane vd lane.toNat (s.readX r)).readV vd, ?exec, ?length, ?written, ?others⟩, ?vget⟩,
    fun hle => ⟨?vsetFault, ?vgetFault⟩, ?vbcast⟩
  case exec => rw [exec_vset_of_lt vd r hlt, finish_writeLane]
  case length => rw [State.length_readV_writeLane, hlanes vd]
  case written => exact State.readLane_writeLane_same s vd (s.readX r) (hlt.trans_eq (hlanes vd).symm)
  case others => exact fun k hk => State.readLane_writeLane_of_ne s vd (s.readX r) hk
  case vget => rw [exec_vget_of_lt vd r hlt, finish_writeX]
  case vsetFault => rw [exec_vset_of_le vd r hle, trap_eq, raise_eq_faulted, causeCode]
  case vgetFault => rw [exec_vget_of_le vd r hle, trap_eq, raise_eq_faulted, causeCode]
  case vbcast => rw [exec_vbcast, execVbcast, finish_writeV]

/-- Settles O42: each command is one write of `v[d]`, the mixed lanes being computed from the state before it, so that
`d = r` is no special case. -/
theorem vectorMixersMapEveryLane : Obligations.VectorMixersMapEveryLane := by
  intro s d r _
  refine ⟨by rw [encodeWord, encodeFields], ?_, by rw [encodeWord, encodeFields], ?_⟩
  · rw [exec_vmixa, execVmixa, finish_writeV]
  · rw [exec_vmixb, execVmixb, finish_writeV]

end Sys2Proof.Machine

/-! Proofs of the family 46_poly: the coefficients `CGEN` draws (46_poly R207), the access to one entry of the coefficient
memory (46_poly R208, R209) and the unsupported vector form (46_poly R210). -/

namespace Sys2Proof.Machine

section Residue61

/-- A fold keeps the residue, `2^61` being 1 modulo `P61` (44_mod61 R161). -/
theorem fold61_mod (x : Nat) : fold61 x % p61 = x % p61 := by
  rw [fold61, p61]
  omega

/-- The loop of `Reduce61` keeps the residue, however many rounds it is given. -/
theorem foldLoop61_mod (n x : Nat) : foldLoop61 n x % p61 = x % p61 := by
  induction n generalizing x with
  | zero => rfl
  | succ n ih =>
    rw [foldLoop61]
    split
    · rw [ih, fold61_mod]
    · rfl

/-- Two folds take a 128-bit value below `2 * P61` (44_mod61 R161). -/
theorem foldLoop61_two_lt {x : Nat} (hx : x < 2 ^ 128) : foldLoop61 2 x < 2 * p61 := by
  have hfold : fold61 x < 2 ^ 68 := by
    rw [fold61]
    omega
  have hfold2 : fold61 (fold61 x) < 2 * p61 := by
    rw [fold61, p61]
    omega
  simp only [foldLoop61]
  split_ifs <;> omega

/-- The conditional subtraction gives the residue of what the loop leaves. -/
theorem subtractOnce61_eq_mod {x : Nat} (hx : x < 2 * p61) : subtractOnce61 x = x % p61 := by
  rw [subtractOnce61]
  split
  · rw [Nat.mod_eq_sub_mod ‹_›, Nat.mod_eq_of_lt (by omega)]
  · exact (Nat.mod_eq_of_lt (by omega)).symm

/-- `Reduce61` is the residue modulo `P61` of every 128-bit value (44_mod61 R161). -/
theorem reduce61_toNat (x : U128) : (reduce61 x).toNat = x.toNat % p61 := by
  have hlt : x.toNat % p61 < 2 ^ 64 := (Nat.mod_lt _ (by decide)).trans (by decide)
  rw [reduce61, subtractOnce61_eq_mod (foldLoop61_two_lt x.isLt), foldLoop61_mod, BitVec.toNat_ofNat,
    Nat.mod_eq_of_lt hlt]

/-- The triple of a scalar stands for the scalar (46_poly R207). -/
theorem limbsOfScalar_val96 (c : U64) : (limbsOfScalar c).val96 = c.toNat := by
  have hc := c.isLt
  simp only [limbsOfScalar, Limbs.val96, lo32, hi32, BitVec.extractLsb'_toNat, Nat.shiftRight_eq_div_pow,
    BitVec.ofNat_eq_ofNat, BitVec.toNat_ofNat]
  omega

end Residue61

section DrawnCoefficients

/-- Coefficient number `i`, counted from 0, of the set that `CGEN` draws in state `s` (46_poly R207). -/
def State.coefNumber (s : State) (i : Nat) : Limbs :=
  match s.cfgBk with
  | .b61 => limbsOfScalar (reduce61 (zext128 (s.drawNumber (2 * i) ++ s.drawNumber (2 * i + 1))))
  | .b89 => ⟨s.drawNumber (3 * i), s.drawNumber (3 * i + 1), s.drawNumber (3 * i + 2) &&& 0x01FFFFFF⟩

variable {s : State}

/-- A coefficient under Backend 61: two draws joined and reduced (46_poly R207). -/
theorem State.coefNumber_b61 (h : s.cfgBk = .b61) (i : Nat) :
    s.coefNumber i = limbsOfScalar (reduce61 (zext128 (s.drawNumber (2 * i) ++ s.drawNumber (2 * i + 1)))) := by
  rw [State.coefNumber, h]

/-- A coefficient under Backend 89: three draws, the third masked (46_poly R207). -/
theorem State.coefNumber_b89 (h : s.cfgBk = .b89) (i : Nat) :
    s.coefNumber i = ⟨s.drawNumber (3 * i), s.drawNumber (3 * i + 1), s.drawNumber (3 * i + 2) &&& 0x01FFFFFF⟩ := by
  rw [State.coefNumber, h]

/-- Limb 2 of a coefficient under Backend 61 is 0 (46_poly R207). -/
theorem State.coefNumber_l2_of_b61 (h : s.cfgBk = .b61) (i : Nat) : (s.coefNumber i).l2 = 0 := by
  rw [State.coefNumber_b61 h, limbsOfScalar]

/-- A coefficient under Backend 61 stands for the residue of its two draws, the first one the high half (46_poly R207). -/
theorem State.coefNumber_val96_of_b61 (h : s.cfgBk = .b61) (i : Nat) :
    (s.coefNumber i).val96 = ((s.drawNumber (2 * i)).toNat * 2 ^ 32 + (s.drawNumber (2 * i + 1)).toNat) % p61 := by
  rw [State.coefNumber_b61 h, limbsOfScalar_val96, reduce61_toNat, zext128,
    BitVec.toNat_setWidth_of_le (by decide), toNat_append_eq_add, Nat.mul_comm]

variable (s)

/-- One step of the loop of `CGEN` draws coefficient number 0. -/
theorem drawCoef_fst : (drawCoef s).1 = s.coefNumber 0 := by
  cases h : s.cfgBk with
  | b61 => rw [drawCoef_b61 h, State.coefNumber_b61 h, next64_fst_eq_drawNumber]
  | b89 => rw [drawCoef_b89 h, State.coefNumber_b89 h]

/-- After one step of the loop of `CGEN` the draws are those after the draws of its coefficient (41_prng R106). -/
theorem drawNumber_drawCoef (i n : Nat) (t : Limbs) :
    ((drawCoef s).2.writeC i t).drawNumber n = s.drawNumber (drawsPerCoef s.cfgBk + n) := by
  rw [State.drawNumber, State.drawNumber, State.writeC_prngState, State.writeC_prngInc, drawCoef_snd,
    State.writePrngState_prngState, State.writePrngState_prngInc, prngAfter_add]

/-- A generator one coefficient ahead draws the coefficients one number ahead. -/
theorem State.coefNumber_shift {s t : State} (hbk : t.cfgBk = s.cfgBk)
    (hdraw : ∀ n, t.drawNumber n = s.drawNumber (drawsPerCoef s.cfgBk + n)) (j : Nat) :
    t.coefNumber j = s.coefNumber (j + 1) := by
  cases h : s.cfgBk with
  | b61 =>
    simp only [State.coefNumber_b61 (hbk.trans h), State.coefNumber_b61 h, hdraw, h, drawsPerCoef,
      show 2 * (j + 1) = 2 + 2 * j by omega, Nat.add_assoc]
  | b89 =>
    simp only [State.coefNumber_b89 (hbk.trans h), State.coefNumber_b89 h, hdraw, h, drawsPerCoef,
      show 3 * (j + 1) = 3 + 3 * j by omega, Nat.add_assoc]

/-- The loop of `CGEN` advances `STATE` past the draws of its coefficients (46_poly R207). -/
theorem genCoefs_prngState (n i : Nat) :
    (genCoefs n i s).prngState = prngAfter s.prngInc (drawsPerCoef s.cfgBk * n) s.prngState := by
  induction n generalizing i s with
  | zero => rfl
  | succ n ih =>
    rw [genCoefs, ih, drawCoef_snd, State.writeC_prngState, State.writeC_prngInc, State.writeC_cfgBk,
      State.writePrngState_prngState, State.writePrngState_prngInc, State.writePrngState_cfgBk, ← prngAfter_add,
      Nat.mul_succ, Nat.add_comm]

/-- A memory that is canonical for some number of entries is so for more. -/
theorem Memory.wf_mono {m n : Nat} {c : Memory} (h : c.wf m) (hmn : m ≤ n) : c.wf n :=
  ⟨h.1, fun d hd => ⟨(h.2 d hd).1, (h.2 d hd).2.trans_le hmn⟩⟩

variable {s}

/-- The loop of `CGEN` fills its entries with the coefficients in the order they are drawn (46_poly R207). -/
theorem genCoefs_readC {kmax n i j : Nat} (h : s.coef.wf kmax) (hn : i + n ≤ kmax) (hj : j < n) :
    (genCoefs n i s).readC (i + j) = s.coefNumber j := by
  induction n generalizing i j s with
  | zero => omega
  | succ n ih =>
    rw [genCoefs]
    have hcoef : (drawCoef s).2.coef = s.coef := by rw [drawCoef_snd, State.writePrngState_coef]
    have hwf : (drawCoef s).2.coef.wf kmax := hcoef ▸ h
    cases j with
    | zero =>
      rw [genCoefs_readC_of_not_mem _ _ _ (.inl (by omega)), Nat.add_zero, State.readC_writeC_same hwf, drawCoef_fst]
    | succ j =>
      have hbk : ((drawCoef s).2.writeC i (drawCoef s).1).cfgBk = s.cfgBk := by
        rw [State.writeC_cfgBk, drawCoef_snd, State.writePrngState_cfgBk]
      rw [show i + (j + 1) = i + 1 + j by omega, ih (Memory.write_wf hwf (by omega) _) (by omega) (by omega)]
      exact State.coefNumber_shift hbk (fun n => drawNumber_drawCoef s i n _) j

/-- `CGEN` with an instance constructed completes, its loop starting at entry 0 (46_poly R207). -/
theorem exec_cgen_of_ne (h : s.cfgK ≠ 0) : exec .cgen s = finish (genCoefs s.cfgK.toNat 0 s) := if_neg h

end DrawnCoefficients

/-- Settles O55: `CGEN` is its loop, which keeps everything but `STATE` and `C`, advances `STATE` once for each draw, and
writes coefficient number `i` to entry `i`. -/
theorem cgenDrawsTheCoefficientSet : Obligations.CgenDrawsTheCoefficientSet := by
  intro s _ hk hwf
  have hfill : ∀ i < s.cfgK.toNat, ((genCoefs s.cfgK.toNat 0 s).answered ⟨0, 0⟩).readC i = s.coefNumber i := by
    intro i hi
    have hmax := Memory.wf_mono hwf (Nat.le_max_left s.params.kmax s.cfgK.toNat)
    have hread := genCoefs_readC (i := 0) hmax (by omega) hi
    rwa [Nat.zero_add] at hread
  refine ⟨(genCoefs s.cfgK.toNat 0 s).answered ⟨0, 0⟩, ?exec, ?frame, ?above, fun hbk => ⟨?state61, ?coef61⟩,
    fun hbk => ⟨?state89, ?coef89⟩⟩
  case exec => rw [exec_cgen_of_ne hk, finish_eq, respond_eq_answered, statusOk]
  case frame => exact congrArg (State.answered · ⟨0, 0⟩) (genCoefs_frame s.cfgK.toNat 0 s)
  case above => exact fun i hi => genCoefs_readC_of_not_mem _ _ s (.inr (by omega))
  case state61 => exact (genCoefs_prngState s _ 0).trans (by rw [hbk, drawsPerCoef])
  case coef61 =>
    intro i hi
    rw [hfill i hi]
    exact ⟨State.coefNumber_l2_of_b61 hbk i, State.coefNumber_val96_of_b61 hbk i⟩
  case state89 => exact (genCoefs_prngState s _ 0).trans (by rw [hbk, drawsPerCoef])
  case coef89 => exact fun i hi => (hfill i hi).trans (State.coefNumber_b89 hbk i)

section CoefficientAccess

variable (s : State)

/-- A command that completes after a write of `q[qd]` changes this register and answers once. -/
theorem finish_writeQ (qd : QReg) (t : Limbs) :
    finish (s.writeQ qd t) = .next ({ s with q := s.q.set qd.toNat t qd.isLt }.answered ⟨0, 0⟩) := by
  rw [finish_eq, respond_eq_answered, statusOk, State.writeQ]

/-- A command that completes after a write of one entry changes the coefficient memory and answers once. -/
theorem finish_writeC (i : Nat) (t : Limbs) :
    finish (s.writeC i t) = .next ({ s with coef := s.coef.write i t }.answered ⟨0, 0⟩) := by
  rw [finish_eq, respond_eq_answered, statusOk, State.writeC]

/-- A command that faults halts the block with the code of its cause and its own word. -/
theorem trap_eq_faulted (c : Cause) (i : Instr) :
    trap c i s = .next (s.faulted (causeCode c) (encodeWord i)) := by
  rw [trap_eq, raise_eq_faulted]

/-- `VPEVAL` executes as its definition in the polynomial unit (46_poly R210). -/
theorem exec_vpeval (vd vs : VReg) : exec (.vpeval vd vs) s = execVpeval vd vs s := rfl

variable {s} {idx : Imm} (r : QReg)

/-- The check of a coefficient index (20_memory R52) as a bound. -/
theorem coefInRange_iff : coefInRange s idx = true ↔ idx.toNat < s.params.kmax := decide_eq_true_iff

/-- `CSET` in range writes its entry (46_poly R208). -/
theorem exec_cset_of_lt (h : idx.toNat < s.params.kmax) :
    exec (.cset idx r) s = finish (s.writeC idx.toNat (s.readQ r)) :=
  if_pos (coefInRange_iff.mpr h)

/-- `CSET` out of range faults (46_poly R208). -/
theorem exec_cset_of_le (h : s.params.kmax ≤ idx.toNat) :
    exec (.cset idx r) s = trap .indexRange (.cset idx r) s :=
  if_neg (mt coefInRange_iff.mp h.not_gt)

/-- `CGET` in range reads its entry (46_poly R209). -/
theorem exec_cget_of_lt (h : idx.toNat < s.params.kmax) :
    exec (.cget r idx) s = finish (s.writeQ r (s.readC idx.toNat)) :=
  if_pos (coefInRange_iff.mpr h)

/-- `CGET` out of range faults (46_poly R209). -/
theorem exec_cget_of_le (h : s.params.kmax ≤ idx.toNat) :
    exec (.cget r idx) s = trap .indexRange (.cget r idx) s :=
  if_neg (mt coefInRange_iff.mp h.not_gt)

end CoefficientAccess

/-- Settles O57: in range, `CSET` is one write of an entry and `CGET` one read; out of range both take the same fault. -/
theorem csetWritesOneEntryCgetReadsOne : Obligations.CsetWritesOneEntryCgetReadsOne := by
  intro s idx r _ hwf
  refine ⟨by rw [encodeWord, encodeFields], by rw [encodeWord, encodeFields],
    fun hlt => ⟨⟨_, (exec_cset_of_lt r hlt).trans (finish_writeC s _ _), rfl, ?written, ?others⟩, ?cget⟩,
    fun hle => ⟨?csetFault, ?cgetFault⟩⟩
  case written => exact State.readC_writeC_same hwf idx.toNat (s.readQ r)
  case others => exact fun j hj => State.readC_writeC_of_ne s hj (s.readQ r)
  case cget => rw [exec_cget_of_lt r hlt, finish_writeQ]
  case csetFault => rw [exec_cset_of_le r hle, trap_eq_faulted, causeCode]
  case cgetFault => rw [exec_cget_of_le r hle, trap_eq_faulted, causeCode]

/-- Settles O58: `VPEVAL` is one fault, whatever the state, so that the vector registers are as they were. -/
theorem vpevalAlwaysRaisesUnsupported : Obligations.VpevalAlwaysRaisesUnsupported :=
  fun s d r _ => ⟨by rw [encodeWord, encodeFields], by rw [exec_vpeval, execVpeval, trap_eq_faulted, causeCode]⟩

end Sys2Proof.Machine

/-! Proofs of the family 47_move_system: host moves (47_move_system R221, R222), limb-register moves (R226, R227, R228) and
the access to the control registers (R232, R233). -/

namespace Sys2Proof.Machine

section HostMoves

variable (s : State) (r : XReg)

/-- `LI` executes as its definition in the move and system unit (47_move_system R221). -/
theorem exec_li (v : U64) : exec (.li r v) s = execLi r v s := rfl

/-- `RD` executes as its definition in the move and system unit (47_move_system R222). -/
theorem exec_rd : exec (.rd r) s = execRd r s := rfl

end HostMoves

/-- Settles O25: `LI` is one write of `x[d]`, its command carrying the value as data word. -/
theorem liLoadsTheDataWord : Obligations.LiLoadsTheDataWord := by
  intro s d v _
  refine ⟨by rw [encode, encodeWord, encodeFields, encodeData], ?_⟩
  rw [exec_li, execLi, finish_writeX]

/-- Settles O26: `RD` completes in the state it reads, the register's value being the data of its response. -/
theorem rdDeliversTheRegister : Obligations.RdDeliversTheRegister := by
  intro s r _
  refine ⟨by rw [encodeWord, encodeFields], ?_⟩
  rw [exec_rd, execRd, finishWith_eq, respond_eq_answered, statusOk]

section LimbMoves

variable (s : State) (qd qs : QReg) (xd lo hi : XReg)

/-- `lo32` of a register by its number (00_scope R11). -/
theorem lo32_eq_ofNat (v : U64) : lo32 v = BitVec.ofNat 32 v.toNat := by
  rw [lo32_eq_setWidth, BitVec.ofNat_toNat]

/-- `hi32` of a register by its number (00_scope R11). -/
theorem hi32_eq_ofNat (v : U64) : hi32 v = BitVec.ofNat 32 (v.toNat / 2 ^ 32) := by
  rw [hi32, BitVec.extractLsb', Nat.shiftRight_eq_div_pow]

/-- The triple `QSET` builds, limb by limb (47_move_system R226). -/
theorem limbsOfPair_eq (a b : U64) :
    limbsOfPair a b = ⟨BitVec.ofNat 32 a.toNat, BitVec.ofNat 32 (a.toNat / 2 ^ 32), BitVec.ofNat 32 b.toNat⟩ := by
  rw [limbsOfPair, lo32_eq_ofNat, hi32_eq_ofNat, lo32_eq_ofNat]

/-- `val64` of a triple as a number: limb 0 below limb 1 (00_scope R11). -/
theorem val64_toNat (t : Limbs) : (val64 t).toNat = t.l0.toNat + t.l1.toNat * 2 ^ 32 := by
  rw [val64, join32, toNat_append_eq_add]
  omega

/-- `val64` of a triple is the word of its number (00_scope R11). -/
theorem val64_eq_ofNat (t : Limbs) : val64 t = BitVec.ofNat 64 (t.l0.toNat + t.l1.toNat * 2 ^ 32) := by
  rw [← val64_toNat, BitVec.ofNat_toNat, BitVec.setWidth_eq]

/-- `zext_64` of a limb by its number (00_scope R11). -/
theorem zext64_eq_ofNat (v : U32) : zext64 v = BitVec.ofNat 64 v.toNat := by
  rw [zext64, BitVec.ofNat_toNat]

/-- `QSET` executes as its definition in the move and system unit (47_move_system R226). -/
theorem exec_qset : exec (.qset qd lo hi) s = execQset qd lo hi s := rfl

/-- `QGETL` executes as its definition in the move and system unit (47_move_system R227). -/
theorem exec_qgetl : exec (.qgetl xd qs) s = execQgetl xd qs s := rfl

/-- `QGETH` executes as its definition in the move and system unit (47_move_system R228). -/
theorem exec_qgeth : exec (.qgeth xd qs) s = execQgeth xd qs s := rfl

end LimbMoves

/-- Settles O30: each command is one write of its destination, the value written being given by the numbers of its
operands. -/
theorem qsetBuildsALimbTriple : Obligations.QsetBuildsALimbTriple := by
  intro s qd qs xd lo hi _
  refine ⟨by rw [encodeWord, encodeFields], ?qset, by rw [encodeWord, encodeFields], ?qgetl,
    by rw [encodeWord, encodeFields], ?qgeth⟩
  case qset => rw [exec_qset, execQset, finish_writeQ, limbsOfPair_eq]
  case qgetl => rw [exec_qgetl, execQgetl, finish_writeX, val64_eq_ofNat]
  case qgeth => rw [exec_qgeth, execQgeth, finish_writeX, zext64_eq_ofNat]

section ControlRegisterReads

variable (s : State)

/-- Control register 1 is `CFG` (10_state R26, R28). -/
@[simp] theorem State.readCsr_cfg : s.readCsr 1 = some s.cfgWord := rfl

/-- Control register 2 is `PSTATE` (10_state R26). -/
@[simp] theorem State.readCsr_pstate : s.readCsr 2 = some s.prngState := rfl

/-- Control register 3 is `PINC` (10_state R26). -/
@[simp] theorem State.readCsr_pinc : s.readCsr 3 = some s.prngInc := rfl

variable {n : Imm}

/-- The control-register numbers that are assigned (10_state R26). -/
theorem csr_cases_of_le (h : n.toNat ≤ 3) : n = 0 ∨ n = 1 ∨ n = 2 ∨ n = 3 := by
  bv_omega

/-- Every number up to 3 names a control register (10_state R26). -/
theorem State.exists_readCsr_of_le (h : n.toNat ≤ 3) : ∃ w, s.readCsr n = some w := by
  obtain rfl | rfl | rfl | rfl := csr_cases_of_le h
  · exact ⟨_, s.readCsr_hwcfg⟩
  · exact ⟨_, s.readCsr_cfg⟩
  · exact ⟨_, s.readCsr_pstate⟩
  · exact ⟨_, s.readCsr_pinc⟩

/-- No number above 3 names a control register (10_state R26). -/
theorem State.readCsr_of_lt (h : 3 < n.toNat) : s.readCsr n = none := by
  unfold State.readCsr
  split
  case h_5 => rfl
  all_goals omega

/-- `CFG` as a number: `K`, and `BK` as a multiple of `2 ^ 8` (10_state R28). -/
theorem State.cfgWord_toNat : s.cfgWord.toNat = s.cfgK.toNat + (if s.cfgBk = .b89 then 2 ^ 8 else 0) := by
  rw [State.cfgWord, toNat_append_eq_add, toNat_append_eq_add, BitVec.toNat_ofBool]
  cases s.cfgBk with
  | b61 => simp [backendBit]
  | b89 => simp [backendBit, Nat.add_comm]

variable (d : XReg) {s} {w : U64}

/-- `CRD` executes as its definition in the move and system unit (47_move_system R232). -/
theorem exec_crd : exec (.crd d n) s = execCrd d n s := rfl

/-- `CRD` of a control register writes its value to `x[d]` (47_move_system R232). -/
theorem execCrd_of_some (h : s.readCsr n = some w) : execCrd d n s = finish (s.writeX d w) := by
  rw [execCrd, h]

/-- `CRD` of a number that names no control register faults (47_move_system R232). -/
theorem execCrd_of_none (h : s.readCsr n = none) : execCrd d n s = trap .csrAccess (.crd d n) s := by
  rw [execCrd, h]

end ControlRegisterReads

/-- Settles O27: a number up to 3 names a control register, whose value is the one word written to `x[d]`; a number above
names none. -/
theorem crdReadsTheControlRegisters : Obligations.CrdReadsTheControlRegisters := by
  intro s d n _
  refine ⟨by rw [encodeWord, encodeFields], fun hle => ?_, fun hlt => ?fault⟩
  case fault => rw [exec_crd, execCrd_of_none d (s.readCsr_of_lt hlt), trap_eq_faulted, causeCode]
  obtain ⟨w, hw⟩ := s.exists_readCsr_of_le hle
  have hval : ∀ {u : U64}, s.readCsr n = some u → w = u := fun hu => Option.some.inj (hw.symm.trans hu)
  refine ⟨w, ?exec, ?hwcfg, ?cfg, ?pstate, ?pinc⟩
  case exec => rw [exec_crd, execCrd_of_some d hw, finish_writeX]
  case hwcfg => rintro rfl; exact hval s.readCsr_hwcfg
  case cfg => rintro rfl; rw [hval s.readCsr_cfg, State.cfgWord_toNat]
  case pstate => rintro rfl; exact hval s.readCsr_pstate
  case pinc => rintro rfl; exact hval s.readCsr_pinc

section ConfigWord

variable {p : Params} {w : U64}

/-- The reserved bits 63:9 of a word are 0 exactly when the word is below `2 ^ 9` (10_state R28). -/
theorem cfgReserved_eq_zero_iff : w.extractLsb' 9 55 = 0 ↔ w.toNat < 2 ^ 9 := by
  simp only [← BitVec.toNat_inj, BitVec.extractLsb'_toNat, Nat.shiftRight_eq_div_pow, BitVec.ofNat_eq_ofNat,
    BitVec.toNat_ofNat]
  omega

/-- The `K` field of a word as a number: the word modulo `2 ^ 8` (10_state R28). -/
theorem cfgKOf_toNat (w : U64) : (cfgKOf w).toNat = w.toNat % 2 ^ 8 := by
  rw [cfgKOf, BitVec.extractLsb'_toNat, Nat.shiftRight_zero]

/-- The `K` field of a word is the word of its number (10_state R28). -/
theorem cfgKOf_eq_ofNat (w : U64) : cfgKOf w = BitVec.ofNat 8 (w.toNat % 2 ^ 8) := by
  rw [← cfgKOf_toNat, BitVec.ofNat_toNat, BitVec.setWidth_eq]

/-- The `BK` field of a word with its reserved bits 0: bit 8 is then its highest (10_state R28). -/
theorem cfgBkOf_eq_of_lt (h : w.toNat < 2 ^ 9) : cfgBkOf w = if w.toNat < 2 ^ 8 then .b61 else .b89 := by
  rw [cfgBkOf, BitVec.getLsbD, Nat.testBit_eq_decide_div_mod_eq]
  by_cases hlow : w.toNat < 2 ^ 8
  · have hbit : ¬ w.toNat / 2 ^ 8 % 2 = 1 := by omega
    rw [if_pos hlow, decide_eq_false hbit, if_neg Bool.false_ne_true]
  · have hbit : w.toNat / 2 ^ 8 % 2 = 1 := by omega
    rw [if_neg hlow, decide_eq_true hbit, if_pos rfl]

/-- Presence of the backend that a word with its reserved bits 0 names (10_state R28). -/
theorem backendHas_cfgBkOf_of_lt (h : w.toNat < 2 ^ 9) :
    backendHas p (cfgBkOf w) = if w.toNat < 2 ^ 8 then p.has61 else p.has89 := by
  rw [cfgBkOf_eq_of_lt h, apply_ite (backendHas p), backendHas, backendHas]

/-- The words that are legal in every field of `CFG`, by their number (10_state R28). -/
theorem cfgLegal_iff :
    cfgLegal p w = true ↔ w.toNat < 2 ^ 9 ∧ w.toNat % 2 ^ 8 ≤ p.kmax ∧
      (if w.toNat < 2 ^ 8 then p.has61 else p.has89) = true := by
  rw [cfgLegal, Bool.and_eq_true, Bool.and_eq_true, beq_iff_eq, decide_eq_true_iff, cfgReserved_eq_zero_iff, cfgKOf_toNat,
    and_assoc]
  exact and_congr_right fun hlt => by rw [backendHas_cfgBkOf_of_lt hlt]

end ConfigWord

section ControlRegisterWrites

variable (s : State) (xs : XReg) (w : U64)

/-- A command that completes after a write of `CFG`, the reserved bits 0, changes `CFG`, clears `C` and answers once. -/
theorem finish_writeCfg_of_lt (h : w.toNat < 2 ^ 9) :
    finish (s.writeCfg w) =
      .next ({ s with cfgK := BitVec.ofNat 8 (w.toNat % 2 ^ 8),
                      cfgBk := (if w.toNat < 2 ^ 8 then .b61 else .b89),
                      coef := Memory.cleared }.answered ⟨0, 0⟩) := by
  rw [finish_eq, respond_eq_answered, statusOk, State.writeCfg, State.clearC, cfgKOf_eq_ofNat, cfgBkOf_eq_of_lt h]

/-- A command that completes after a write of `STATE` changes `STATE` and answers once. -/
theorem finish_writePrngState :
    finish (s.writePrngState w) = .next ({ s with prngState := w }.answered ⟨0, 0⟩) := by
  rw [finish_eq, respond_eq_answered, statusOk, State.writePrngState]

/-- A command that completes after a write of `INC` changes `INC` and answers once. -/
theorem finish_writeInc :
    finish (s.writeInc w) = .next ({ s with prngInc := w ||| 1 }.answered ⟨0, 0⟩) := by
  rw [finish_eq, respond_eq_answered, statusOk, State.writeInc]

variable {s}

/-- `CWR` of a legal value to `CFG` writes it (47_move_system R233). -/
theorem execCwr_cfg_of_legal (h : cfgLegal s.params (s.readX xs) = true) :
    execCwr 1 xs s = finish (s.writeCfg (s.readX xs)) :=
  if_pos h

/-- `CWR` of an illegal value to `CFG` faults (47_move_system R233). -/
theorem execCwr_cfg_of_not_legal (h : ¬ cfgLegal s.params (s.readX xs) = true) :
    execCwr 1 xs s = trap .config (.cwr 1 xs) s :=
  if_neg h

variable (s)

/-- `CWR` to `PSTATE` writes `STATE` (47_move_system R233). -/
theorem execCwr_pstate : execCwr 2 xs s = finish (s.writePrngState (s.readX xs)) := rfl

/-- `CWR` to `PINC` writes `INC` (47_move_system R233). -/
theorem execCwr_pinc : execCwr 3 xs s = finish (s.writeInc (s.readX xs)) := rfl

/-- `CWR` to a number that names no control register faults (47_move_system R233). -/
theorem execCwr_of_lt {n : Imm} (h : 3 < n.toNat) : execCwr n xs s = trap .csrAccess (.cwr n xs) s := by
  unfold execCwr
  split
  case h_4 => rfl
  all_goals omega

end ControlRegisterWrites

/-- Settles O29: one lemma for each control register and for the numbers above 3; a value is legal for `CFG` by bounds on
its number, and `C` is empty after a legal write, so that every entry reads `(0, 0, 0)`. -/
theorem cwrWritesTheControlRegisters : Obligations.CwrWritesTheControlRegisters := by
  intro s n xs _
  refine ⟨by rw [encodeWord, encodeFields], ?cfg, ?pstate, ?pinc, ?fault⟩
  case cfg =>
    rintro rfl
    rw [exec_cwr]
    by_cases hlegal : cfgLegal s.params (s.readX xs) = true
    · obtain ⟨hreserved, _⟩ := cfgLegal_iff.mp hlegal
      rw [if_pos (cfgLegal_iff.mp hlegal), execCwr_cfg_of_legal xs hlegal, finish_writeCfg_of_lt s _ hreserved]
      exact ⟨_, rfl, Memory.read_cleared, rfl⟩
    · rw [if_neg (mt cfgLegal_iff.mpr hlegal), execCwr_cfg_of_not_legal xs hlegal, trap_eq_faulted, causeCode]
  case pstate => rintro rfl; rw [exec_cwr, execCwr_pstate, finish_writePrngState]
  case pinc => rintro rfl; rw [exec_cwr, execCwr_pinc, finish_writeInc]
  case fault =>
    rintro (rfl | hlt)
    · rw [exec_cwr, execCwr_hwcfg, trap_eq_faulted, causeCode]
    · rw [exec_cwr, execCwr_of_lt s xs hlt, trap_eq_faulted, causeCode]

end Sys2Proof.Machine

/-! Proofs of the family 60_exceptions: the fault entry (60_exceptions R253) and the halted block (60_exceptions R255). The
latch takes the word the host presented, which is the word of the instruction it decodes to (30_encoding R77). -/

namespace Sys2Proof

section DecodedFields

/-- A result of the decoder on the fields `f` is faithful when the instruction it answers, if any, is encoded in `f`. -/
def FaithfulTo (f : Fields) (r : Except DecodeError Instr) : Prop := ∀ i, r = .ok i → encodeFields i = f

variable {f : Fields} {i : Instr}

theorem FaithfulTo.ok (h : encodeFields i = f) : FaithfulTo f (.ok i) := by
  rintro _ ⟨⟩
  exact h

theorem FaithfulTo.error (e : DecodeError) : FaithfulTo f (.error e) := by
  rintro _ ⟨⟩

/-- A row of the opcode map fixes the opcode, and its check the unused fields (30_encoding R74, R77). -/
theorem FaithfulTo.row {n : Nat} {b : Bool} {r : Except DecodeError Instr} (hop : f.opcode.toNat = n)
    (h : f.opcode = BitVec.ofNat 8 n → b = true → FaithfulTo f r) : FaithfulTo f (unless0 b r) := by
  unfold unless0
  split
  case isTrue hb => exact h (by rw [← hop, BitVec.ofNat_toNat, BitVec.setWidth_eq]) hb
  case isFalse => exact .error _

/-- A specifier field below 4 is the number of its register, zero-extended (30_encoding R73). -/
theorem setWidth_setWidth_of_lt {x : BitVec 4} (h : x.toNat < 4) : (x.setWidth 2).setWidth 4 = x := by
  bv_omega

/-- A limb or vector specifier leaves it to be shown for every register number its field can be the extension of. -/
theorem FaithfulTo.withSpec {x : BitVec 4} {k : BitVec 2 → Except DecodeError Instr}
    (h : ∀ r : BitVec 2, r.setWidth 4 = x → FaithfulTo f (k r)) : FaithfulTo f (Sys2Proof.withSpec x k) := by
  unfold Sys2Proof.withSpec
  split
  case isTrue hx => exact h _ (setWidth_setWidth_of_lt hx)
  case isFalse => exact .error _

/-- The decoder answers no instruction but the one encoded in the fields: none, one, two or three operands of a row are
specifiers, and the other operands are fields as they stand (30_encoding R77). -/
theorem decodeFields_faithfulTo (f : Fields) (data : U64) : FaithfulTo f (decodeFields f data) := by
  obtain ⟨opcode, rd, rs1, rs2, rs3, imm⟩ := f
  unfold decodeFields
  split
  -- no row: an unassigned opcode
  case h_28 => exact .error _
  -- three specifiers: `FMAR89`
  case h_18 hop =>
    refine .row hop fun hopcode hzero => .withSpec fun d hd => .withSpec fun a ha => .withSpec fun b hb => .ok ?_
    simp_all [encodeFields]
  -- two specifiers: `VMIXA`, `VMIXB`, `VPEVAL`
  case h_11 hop | h_12 hop | h_27 hop =>
    refine .row hop fun hopcode hzero => .withSpec fun d hd => .withSpec fun r hr => .ok ?_
    simp_all [encodeFields]
  -- one specifier: `VSET`, `VGET`, `VBCAST`, `RED89`, `QSET`, `QGETL`, `QGETH`, `CSET`, `CGET`
  case h_13 hop | h_14 hop | h_15 hop | h_19 hop | h_20 hop | h_21 hop | h_22 hop | h_25 hop | h_26 hop =>
    refine .row hop fun hopcode hzero => .withSpec fun r hr => .ok ?_
    simp_all [encodeFields]
  -- no specifier: the other rows
  all_goals
    next hop =>
    refine .row hop fun hopcode hzero => .ok ?_
    simp_all [encodeFields]

/-- The word of a decoded command is the word it was presented with (30_encoding R77, R83). -/
theorem encodeWord_of_decode {c : Command} (h : decode c = .ok i) : encodeWord i = c.word := by
  rw [encodeWord, decodeFields_faithfulTo _ _ i h, wordOf_fieldsOf]

end DecodedFields

end Sys2Proof

namespace Sys2Proof.Machine

section FaultEntry

variable {s : State} {c : Command} {rest : List HostInput}

/-- The two ends of a command a running block accepts: a fault that latches the word presented, or it executes and the
interface is otherwise as it was (60_exceptions R253, 30_encoding R71). -/
theorem step_command_running (hin : s.inputs = .command c :: rest) (hs : s.Running) :
    (∃ cause, step s = .next ({ s with inputs := rest }.raise cause c.word)) ∨
    (∃ t d, { s with inputs := rest }.KeepsInterface t ∧ step s = .next (t.respond statusOk d)) := by
  cases hd : decode c with
  | error e => exact .inl ⟨_, step_command_illegal hin hs hd⟩
  | ok i =>
    have hstep := step_command_decoded hin hs hd
    rcases exec_answers i { s with inputs := rest } with ⟨t, ht, hexec⟩ | ⟨cause, -, hexec⟩
    · exact .inr ⟨t, _, ht, hstep.trans hexec⟩
    · exact .inl ⟨cause, by rw [hstep, hexec, trap_eq, encodeWord_of_decode hd]⟩

end FaultEntry

/-- Settles O8: a command that leaves the block halted cannot be one that executed, since that keeps `FAULT`; the fault it
took is the whole entry. -/
theorem faultEntryIsPrecise : Obligations.FaultEntryIsPrecise := by
  intro s t c rest hs hin hstep hhalted
  rcases step_command_running hin hs with ⟨cause, hraise⟩ | ⟨u, d, hu, hdone⟩
  · obtain ⟨hlo, hhi⟩ := causeCode_range cause
    refine ⟨causeCode cause, hlo, hhi, ?_⟩
    rw [← raise_eq_faulted]
    exact Host.Outcome.next.inj (hstep.symm.trans hraise)
  · obtain rfl : t = u.respond statusOk d := Host.Outcome.next.inj (hstep.symm.trans hdone)
    have hrunning : u.Running := hu.fault.trans hs
    exact absurd hhalted (Bool.eq_false_iff.mp hrunning)

/-- Settles O5: the refusal of a halted block is one response and nothing else. -/
theorem haltedBlockRefusesEveryCommand : Obligations.HaltedBlockRefusesEveryCommand := by
  intro s c rest hs hin
  rw [step_command_halted hin hs, State.refuseHalted, respond_eq_answered, statusHalted]

end Sys2Proof.Machine

/-! Proofs of the encoding of commands: the decoder undoes the encoder and the encoder the decoder (30_encoding R72 to
R74, R83), and the decoder accepts exactly the rows of the opcode map (30_encoding R77 to R79). -/

namespace Sys2Proof

section DecodedEncoding

/-- A row of the decoder whose unused fields are zero answers its instruction (30_encoding R74). -/
@[simp] theorem unless0_true (r : Except DecodeError Instr) : unless0 true r = r := rfl

/-- A specifier field that holds a register number answers that register (30_encoding R73). -/
@[simp] theorem withSpec_setWidth (v : BitVec 2) (k : BitVec 2 → Except DecodeError Instr) :
    withSpec (v.setWidth 4) k = k v := by
  rw [withSpec, if_pos (spec_lt v), spec_back]

/-- The instruction with the value of `LI` replaced by `data`; every other instruction as it is. -/
def Instr.withData (data : U64) : Instr → Instr
  | .li xd _ => .li xd data
  | i => i

/-- The data word is no part of the mnemonic. -/
theorem Instr.withData_mnemonic (data : U64) (i : Instr) : (i.withData data).mnemonic = i.mnemonic := by
  cases i <;> rfl

/-- An instruction with the data word of its own command is itself (30_encoding R83). -/
theorem Instr.withData_encodeData (i : Instr) : i.withData (encodeData i) = i := by
  cases i <;> rfl

/-- The decoder reads an instruction back from its fields; the data word it was presented with is the value of `LI`
(30_encoding R70, R77). -/
theorem decodeFields_encodeFields (i : Instr) (data : U64) :
    decodeFields (encodeFields i) data = .ok (i.withData data) := by
  cases i with
  -- the rows with a limb or vector specifier among their fields
  | vmixa | vmixb | vset | vget | vbcast | fmar89 | red89 | qset | qgetl | qgeth | cset | cget | vpeval =>
    simp [decodeFields, encodeFields, Instr.withData]
  -- the rows whose operands are their fields as they stand
  | li | rd | crd | cwr | pseed | pnext32 | pnext64 | mixa64 | mixa32 | mixb64 | red61 | mulmod61 | peval | cgen => rfl

end DecodedEncoding

/-- Settles O12: the fields of the encoded word are those encoded, and the decoder reads the instruction back from
them. -/
theorem decodeOfEncodeIsTheInstruction : Obligations.DecodeOfEncodeIsTheInstruction := by
  intro i
  rw [decode, encode, encodeWord, fieldsOf_wordOf, decodeFields_encodeFields, Instr.withData_encodeData]

/-- Settles O13: the word is that of `encodeWord_of_decode`; its fields then are those of the instruction, so that the
decoder's own answer has the command's data word for value. -/
theorem encodeOfDecodeIsTheCommand : Obligations.EncodeOfDecodeIsTheCommand := by
  intro c i hdec
  refine ⟨encodeWord_of_decode hdec, ?_⟩
  rintro xd v rfl
  have hfields : encodeFields (.li xd v) = fieldsOf c.word := decodeFields_faithfulTo _ _ _ hdec
  rw [decode, ← hfields, decodeFields_encodeFields, Instr.withData] at hdec
  injection hdec with hli
  injection hli with _ hv
  exact hv.symm

section OpcodeMap

/-- The word of every instruction is an instance of the row with its mnemonic (30_encoding R77). -/
theorem exists_row_of_instr (i : Instr) :
    ∃ r ∈ opcodeRows, r.mnemonic = i.mnemonic ∧ r.matches (encodeWord i) = true := by
  cases i with
  | li xd value => exact Laws.EncodedRow.li xd value
  | rd xs => exact Laws.EncodedRow.rd xs
  | crd xd csr => exact Laws.EncodedRow.crd xd csr
  | cwr csr xs => exact Laws.EncodedRow.cwr csr xs
  | pseed xa xb => exact Laws.EncodedRow.pseed xa xb
  | pnext32 xd => exact Laws.EncodedRow.pnext32 xd
  | pnext64 xd => exact Laws.EncodedRow.pnext64 xd
  | mixa64 xd xs => exact Laws.EncodedRow.mixa64 xd xs
  | mixa32 xd xs => exact Laws.EncodedRow.mixa32 xd xs
  | mixb64 xd xs => exact Laws.EncodedRow.mixb64 xd xs
  | vmixa vd vs => exact Laws.EncodedRow.vmixa vd vs
  | vmixb vd vs => exact Laws.EncodedRow.vmixb vd vs
  | vset vd xs lane => exact Laws.EncodedRow.vset vd xs lane
  | vget xd vs lane => exact Laws.EncodedRow.vget xd vs lane
  | vbcast vd xs => exact Laws.EncodedRow.vbcast vd xs
  | red61 xd xlo xhi => exact Laws.EncodedRow.red61 xd xlo xhi
  | mulmod61 xd xa xb => exact Laws.EncodedRow.mulmod61 xd xa xb
  | fmar89 qd xs qa qb => exact Laws.EncodedRow.fmar89 qd xs qa qb
  | red89 xd qs => exact Laws.EncodedRow.red89 xd qs
  | qset qd xlo xhi => exact Laws.EncodedRow.qset qd xlo xhi
  | qgetl xd qs => exact Laws.EncodedRow.qgetl xd qs
  | qgeth xd qs => exact Laws.EncodedRow.qgeth xd qs
  | peval xd xs => exact Laws.EncodedRow.peval xd xs
  | cgen => exact Laws.EncodedRow.cgen
  | cset idx qs => exact Laws.EncodedRow.cset idx qs
  | cget qd idx => exact Laws.EncodedRow.cget qd idx
  | vpeval vd vs => exact Laws.EncodedRow.vpeval vd vs

/-- A row matches a word exactly when it matches the word's fields, field by field. -/
theorem matches_iff_fieldsAnd (r : OpcodeRow) (w : U32) :
    w &&& r.mask = r.pattern ↔ fieldsAnd (fieldsOf w) (fieldsOf r.mask) = fieldsOf r.pattern := by
  rw [← row_matches_wordOf, wordOf_fieldsOf, OpcodeRow.matches, beq_iff_eq]

/-- A field whose mask covers its high two bits alone is a register number, zero-extended (30_encoding R73). -/
theorem spec_of_high_bits {x : BitVec 4} (h : x &&& 0xC#4 = 0#4) : (x.setWidth 2).setWidth 4 = x := by
  revert x
  decide

/-- A register field its mask covers is fixed by the row. -/
theorem and_fullField4 (x : BitVec 4) : x &&& 15#4 = x := BitVec.and_allOnes

/-- An opcode or immediate its mask covers is fixed by the row. -/
theorem and_fullField8 (x : BitVec 8) : x &&& 255#8 = x := BitVec.and_allOnes

/-- The fields of a word that matches a row are the fields of an instruction with the row's mnemonic: the mask leaves free
exactly the operands (30_encoding R77). -/
theorem exists_encodeFields_of_row {r : OpcodeRow} (hr : r ∈ opcodeRows) {f : Fields}
    (h : fieldsAnd f (fieldsOf r.mask) = fieldsOf r.pattern) :
    ∃ i : Instr, i.mnemonic = r.mnemonic ∧ encodeFields i = f := by
  obtain ⟨opcode, rd, rs1, rs2, rs3, imm⟩ := f
  simp only [opcodeRows, List.cons_append, List.nil_append, List.mem_cons, List.not_mem_nil, or_false] at hr
  rcases hr with rfl | rfl | rfl | rfl | rfl | rfl | rfl | rfl | rfl | rfl | rfl | rfl | rfl | rfl | rfl | rfl | rfl |
    rfl | rfl | rfl | rfl | rfl | rfl | rfl | rfl | rfl | rfl
  all_goals simp [fieldsAnd, fieldsOf, and_fullField4, and_fullField8] at h
  · exact ⟨.li rd 0, rfl, by simp_all [encodeFields]⟩
  · exact ⟨.rd rs1, rfl, by simp_all [encodeFields]⟩
  · exact ⟨.crd rd imm, rfl, by simp_all [encodeFields]⟩
  · exact ⟨.cwr imm rs1, rfl, by simp_all [encodeFields]⟩
  · exact ⟨.pseed rs1 rs2, rfl, by simp_all [encodeFields]⟩
  · exact ⟨.pnext32 rd, rfl, by simp_all [encodeFields]⟩
  · exact ⟨.pnext64 rd, rfl, by simp_all [encodeFields]⟩
  · exact ⟨.mixa64 rd rs1, rfl, by simp_all [encodeFields]⟩
  · exact ⟨.mixa32 rd rs1, rfl, by simp_all [encodeFields]⟩
  · exact ⟨.mixb64 rd rs1, rfl, by simp_all [encodeFields]⟩
  · exact ⟨.vmixa (rd.setWidth 2) (rs1.setWidth 2), rfl, by simp_all [encodeFields, spec_of_high_bits]⟩
  · exact ⟨.vmixb (rd.setWidth 2) (rs1.setWidth 2), rfl, by simp_all [encodeFields, spec_of_high_bits]⟩
  · exact ⟨.vset (rd.setWidth 2) rs1 imm, rfl, by simp_all [encodeFields, spec_of_high_bits]⟩
  · exact ⟨.vget rd (rs1.setWidth 2) imm, rfl, by simp_all [encodeFields, spec_of_high_bits]⟩
  · exact ⟨.vbcast (rd.setWidth 2) rs1, rfl, by simp_all [encodeFields, spec_of_high_bits]⟩
  · exact ⟨.red61 rd rs1 rs2, rfl, by simp_all [encodeFields]⟩
  · exact ⟨.mulmod61 rd rs1 rs2, rfl, by simp_all [encodeFields]⟩
  · exact ⟨.fmar89 (rd.setWidth 2) rs1 (rs2.setWidth 2) (rs3.setWidth 2), rfl,
      by simp_all [encodeFields, spec_of_high_bits]⟩
  · exact ⟨.red89 rd (rs1.setWidth 2), rfl, by simp_all [encodeFields, spec_of_high_bits]⟩
  · exact ⟨.qset (rd.setWidth 2) rs1 rs2, rfl, by simp_all [encodeFields, spec_of_high_bits]⟩
  · exact ⟨.qgetl rd (rs1.setWidth 2), rfl, by simp_all [encodeFields, spec_of_high_bits]⟩
  · exact ⟨.qgeth rd (rs1.setWidth 2), rfl, by simp_all [encodeFields, spec_of_high_bits]⟩
  · exact ⟨.peval rd rs1, rfl, by simp_all [encodeFields]⟩
  · exact ⟨.cgen, rfl, by simp_all [encodeFields]⟩
  · exact ⟨.cset imm (rs1.setWidth 2), rfl, by simp_all [encodeFields, spec_of_high_bits]⟩
  · exact ⟨.cget (rd.setWidth 2) imm, rfl, by simp_all [encodeFields, spec_of_high_bits]⟩
  · exact ⟨.vpeval (rd.setWidth 2) (rs1.setWidth 2), rfl, by simp_all [encodeFields, spec_of_high_bits]⟩

/-- Every row's mask covers the opcode (30_encoding R77). -/
theorem mask_opcode : ∀ r ∈ opcodeRows, (fieldsOf r.mask).opcode = 255#8 := by decide

/-- A row fixes the opcode of the words it matches (30_encoding R77). -/
theorem opcode_of_matches {r : OpcodeRow} (hr : r ∈ opcodeRows) {w : U32} (h : w &&& r.mask = r.pattern) :
    (fieldsOf w).opcode = (fieldsOf r.pattern).opcode := by
  have hopcode := congrArg Fields.opcode ((matches_iff_fieldsAnd r w).mp h)
  rwa [fieldsAnd, mask_opcode r hr, and_fullField8] at hopcode

/-- The rows of the map have different mnemonics. -/
theorem mnemonics_nodup : (opcodeRows.map OpcodeRow.mnemonic).Nodup := by decide

/-- The rows of the map have different opcodes. -/
theorem opcodes_nodup : (opcodeRows.map fun r => (fieldsOf r.pattern).opcode).Nodup := by decide

/-- A word that decodes matches the row with the mnemonic of its instruction. -/
theorem exists_row_of_decode {c : Command} {i : Instr} (hdec : decode c = .ok i) :
    ∃ r ∈ opcodeRows, r.mnemonic = i.mnemonic ∧ c.word &&& r.mask = r.pattern := by
  obtain ⟨r, hr, hname, hmatch⟩ := exists_row_of_instr i
  rw [encodeWord_of_decode hdec, OpcodeRow.matches, beq_iff_eq] at hmatch
  exact ⟨r, hr, hname, hmatch⟩

/-- A word that matches a row decodes to an instruction with the row's mnemonic. -/
theorem exists_decode_of_row {r : OpcodeRow} (hr : r ∈ opcodeRows) {w : U32} (h : w &&& r.mask = r.pattern) (d : U64) :
    ∃ i, decode ⟨w, d⟩ = .ok i ∧ i.mnemonic = r.mnemonic := by
  obtain ⟨i, hname, hfields⟩ := exists_encodeFields_of_row hr ((matches_iff_fieldsAnd r w).mp h)
  refine ⟨i.withData d, ?_, (i.withData_mnemonic d).trans hname⟩
  rw [decode, ← hfields, decodeFields_encodeFields]

end OpcodeMap

/-- Settles O14: a word that matches a row decodes to its instruction; and a word that decodes matches the one row that
has the instruction's mnemonic. -/
theorem decodeAcceptsExactlyTheTable : Obligations.DecodeAcceptsExactlyTheTable := by
  refine ⟨rfl, fun i => ?_, fun r hr w d => ⟨fun h => exists_decode_of_row hr h d, ?_⟩⟩
  · obtain ⟨r, hr, hname, _⟩ := exists_row_of_instr i
    exact ⟨r, hr, hname⟩
  · rintro ⟨i, hdec, hname⟩
    obtain ⟨r', hr', hname', hmatch⟩ := exists_row_of_decode hdec
    obtain rfl : r' = r := List.inj_on_of_nodup_map mnemonics_nodup hr' hr (hname'.trans hname)
    exact hmatch

/-- Settles O15: two rows that match one word would have its opcode, and no two rows have the same. -/
theorem opcodeRowsAreDisjoint : Obligations.OpcodeRowsAreDisjoint := by
  refine (List.pairwise_map.mp opcodes_nodup).imp_of_mem fun ha hb hne w => ?_
  rintro ⟨hwa, hwb⟩
  exact hne ((opcode_of_matches ha hwa).symm.trans (opcode_of_matches hb hwb))

/-- Settles O17: the decoder evaluated on each word. -/
theorem listedWordsDecode : Obligations.ListedWordsDecode := by
  refine ⟨?_, ?_, ?_, ?_, ?_, ?_, ?_, ?_, ?_, ?_⟩ <;> decide

end Sys2Proof

namespace Sys2Proof.Machine

/-- Settles O16: a word that decoded would match a row. -/
theorem unmatchedWordIsIllegal : Obligations.UnmatchedWordIsIllegal := by
  intro s c rest hs hin hnone
  cases hdec : decode c with
  | error e => rw [step_command_illegal hin hs hdec, raise_eq_faulted, causeCode]
  | ok i =>
    obtain ⟨r, hr, _, hmatch⟩ := exists_row_of_decode hdec
    exact absurd hmatch (hnone r hr)

end Sys2Proof.Machine

/-! Proofs about every step: the writes a command can make, said once (`exec_byWrites`), and from them the frames of the
registers, the generator and the coefficient memory (10_state R22 to R29, 20_memory R50) and the invariant. -/

namespace Sys2Proof.Machine

section Writes

/-- One write that the command `i` may make in the state `s`: to its own destination register, or to the generator, `CFG`
or `C` where it is a command that may. What each write has to respect is written with it: a vector register keeps its
number of lanes, `CFG` takes a legal word, and an entry written lies below `KMAX` while `CFG` is legal. -/
inductive WriteOf (i : Instr) : State → State → Prop where
  | x (s : State) (r : XReg) (w : U64) (h : i.destX = some r) : WriteOf i s (s.writeX r w)
  | q (s : State) (r : QReg) (t : Limbs) (h : i.destQ = some r) : WriteOf i s (s.writeQ r t)
  | v (s : State) (r : VReg) (l : List U64) (h : i.destV = some r) (hl : s.LanesOk → l.length = s.params.lanes) :
      WriteOf i s (s.writeV r l)
  | prngState (s : State) (w : U64) (h : i.movesGenerator = true) : WriteOf i s (s.writePrngState w)
  | prngInc (s : State) (w : U64) (h : i.writesIncrement = true) : WriteOf i s (s.writeInc w)
  | cfg (s : State) (xs : XReg) (w : U64) (h : i = .cwr 1 xs) (hl : cfgLegal s.params w = true) :
      WriteOf i s (s.writeCfg w)
  | coef (s : State) (j : Nat) (t : Limbs) (h : i.writesCoefs = true) (hj : s.CfgOk → j < s.params.kmax) :
      WriteOf i s (s.writeC j t)

/-- What an executed command can answer: it completes after some of its writes, or it faults having made none. -/
def ByWrites (i : Instr) (s : State) (o : Host.Outcome State Fault Refusal) : Prop :=
  (∃ t d, Relation.ReflTransGen (WriteOf i) s t ∧ o = finishWith t d) ∨ ∃ c, o = trap c i s

variable {i : Instr} {s t u : State} {c : Cause}

theorem ByWrites.of_writes (h : Relation.ReflTransGen (WriteOf i) s t) : ByWrites i s (finish t) :=
  .inl ⟨t, 0, h, rfl⟩

theorem ByWrites.of_write (h : WriteOf i s t) : ByWrites i s (finish t) := .of_writes (.single h)

theorem ByWrites.of_two (h : WriteOf i s t) (h' : WriteOf i t u) : ByWrites i s (finish u) :=
  .of_writes (.tail (.single h) h')

theorem ByWrites.of_trap : ByWrites i s (trap c i s) := .inr ⟨c, rfl⟩

/-- The shape of most commands that can fault: a guard, then one write or one fault. -/
theorem ByWrites.of_guard {p : Prop} [Decidable p] (h : p → WriteOf i s t) :
    ByWrites i s (if p then finish t else trap c i s) := by
  split
  · exact .of_write (h ‹p›)
  · exact .of_trap

theorem execCrd_byWrites (xd : XReg) (csr : Imm) (s : State) : ByWrites (.crd xd csr) s (execCrd xd csr s) := by
  unfold execCrd
  split
  · exact .of_write (.x _ _ _ rfl)
  · exact .of_trap

/-- `CWR`, by the control register its number names: the number decides which of the three writes it may make. -/
theorem execCwr_byWrites (csr : Imm) (xs : XReg) (s : State) : ByWrites (.cwr csr xs) s (execCwr csr xs s) := by
  rcases Nat.lt_or_ge 3 csr.toNat with hlt | hle
  · exact execCwr_of_lt s xs hlt ▸ .of_trap
  · obtain rfl | rfl | rfl | rfl := csr_cases_of_le hle
    · exact execCwr_hwcfg xs s ▸ .of_trap
    · exact .of_guard (.cfg _ xs _ rfl)
    · exact .of_write (.prngState _ _ rfl)
    · exact .of_write (.prngInc _ _ rfl)

theorem execFmar89_byWrites (qd : QReg) (xs : XReg) (qa qb : QReg) (s : State) :
    ByWrites (.fmar89 qd xs qa qb) s (execFmar89 qd xs qa qb s) := by
  unfold execFmar89
  split
  · split
    · exact .of_write (.q _ _ _ rfl)
    · exact .of_trap
  · exact .of_trap

theorem execPeval_byWrites (xd xs : XReg) (s : State) : ByWrites (.peval xd xs) s (execPeval xd xs s) := by
  unfold execPeval
  split
  · exact .of_trap
  · split
    · exact .of_write (.x _ _ _ rfl)
    · exact .of_trap

/-- The loop of `CGEN` is writes of `STATE` and of entries, all below `KMAX` when its range is (46_poly R207). -/
theorem genCoefs_writes (n k : Nat) (s : State) (hn : s.CfgOk → k + n ≤ s.params.kmax) :
    Relation.ReflTransGen (WriteOf .cgen) s (genCoefs n k s) := by
  induction n generalizing k s with
  | zero => exact .refl
  | succ n ih =>
    rw [genCoefs, drawCoef_snd]
    refine .head (.prngState s _ rfl) (.head (.coef _ k _ rfl fun hcfg => ?_) (ih (k + 1) _ fun hcfg => ?_))
    · have := hn hcfg
      show k < s.params.kmax
      omega
    · have := hn hcfg
      show k + 1 + n ≤ s.params.kmax
      omega

theorem execCgen_byWrites (s : State) : ByWrites .cgen s (execCgen s) := by
  unfold execCgen
  split
  · exact .of_trap
  · exact .of_writes (genCoefs_writes _ 0 s fun hcfg => by rw [Nat.zero_add]; exact hcfg.1)

/-- Which writes each command makes: the inversion of `exec` from which every frame and the invariant follow. -/
theorem exec_byWrites (i : Instr) (s : State) : ByWrites i s (exec i s) := by
  cases i with
  | li xd value => exact .of_write (.x _ _ _ rfl)
  | rd xs => exact .inl ⟨s, s.readX xs, .refl, rfl⟩
  | crd xd csr => exact execCrd_byWrites xd csr s
  | cwr csr xs => exact execCwr_byWrites csr xs s
  | pseed xa xb => exact .of_two (.prngState _ _ rfl) (.prngInc _ _ rfl)
  | pnext32 xd => exact .of_two (.prngState _ _ rfl) (.x _ _ _ rfl)
  | pnext64 xd => exact .of_two (.prngState _ _ rfl) (.x _ _ _ rfl)
  | mixa64 xd xs => exact .of_write (.x _ _ _ rfl)
  | mixa32 xd xs => exact .of_write (.x _ _ _ rfl)
  | mixb64 xd xs => exact .of_write (.x _ _ _ rfl)
  | vmixa vd vs => exact .of_write (.v _ _ _ rfl fun h => by rw [List.length_map, h vs])
  | vmixb vd vs => exact .of_write (.v _ _ _ rfl fun h => by rw [List.length_map, h vs])
  | vset vd xs lane => exact .of_guard fun _ => .v _ _ _ rfl fun h => by rw [List.length_set, h vd]
  | vget xd vs lane => exact .of_guard fun _ => .x _ _ _ rfl
  | vbcast vd xs => exact .of_write (.v _ _ _ rfl fun _ => List.length_replicate)
  | red61 xd xlo xhi => exact .of_guard fun _ => .x _ _ _ rfl
  | mulmod61 xd xa xb => exact .of_guard fun _ => .x _ _ _ rfl
  | fmar89 qd xs qa qb => exact execFmar89_byWrites qd xs qa qb s
  | red89 xd qs => exact .of_guard fun _ => .x _ _ _ rfl
  | qset qd xlo xhi => exact .of_write (.q _ _ _ rfl)
  | qgetl xd qs => exact .of_write (.x _ _ _ rfl)
  | qgeth xd qs => exact .of_write (.x _ _ _ rfl)
  | peval xd xs => exact execPeval_byWrites xd xs s
  | cgen => exact execCgen_byWrites s
  | cset idx qs => exact .of_guard fun hin => .coef _ _ _ rfl fun _ => coefInRange_iff.mp hin
  | cget qd idx => exact .of_guard fun _ => .q _ _ _ rfl
  | vpeval vd vs => exact .of_trap

end Writes

section Frames

/-- `t` differs from `s` at most where the command `i` may write. -/
structure State.FrameOf (i : Instr) (s t : State) : Prop where
  readX : ∀ r, i.destX ≠ some r → t.readX r = s.readX r
  readQ : ∀ r, i.destQ ≠ some r → t.readQ r = s.readQ r
  readV : ∀ r, i.destV ≠ some r → t.readV r = s.readV r
  prngState : i.movesGenerator = false → t.prngState = s.prngState
  prngInc : i.writesIncrement = false → t.prngInc = s.prngInc
  coef : i.writesCoefs = false → t.coef = s.coef
  cfg : (∀ xs, i ≠ .cwr 1 xs) → t.cfgK = s.cfgK ∧ t.cfgBk = s.cfgBk

variable {i : Instr} {s t u : State}

theorem State.FrameOf.refl (i : Instr) (s : State) : s.FrameOf i s where
  readX _ _ := rfl
  readQ _ _ := rfl
  readV _ _ := rfl
  prngState _ := rfl
  prngInc _ := rfl
  coef _ := rfl
  cfg _ := ⟨rfl, rfl⟩

theorem State.FrameOf.trans (hst : s.FrameOf i t) (htu : t.FrameOf i u) : s.FrameOf i u where
  readX r h := (htu.readX r h).trans (hst.readX r h)
  readQ r h := (htu.readQ r h).trans (hst.readQ r h)
  readV r h := (htu.readV r h).trans (hst.readV r h)
  prngState h := (htu.prngState h).trans (hst.prngState h)
  prngInc h := (htu.prngInc h).trans (hst.prngInc h)
  coef h := (htu.coef h).trans (hst.coef h)
  cfg h := ⟨(htu.cfg h).1.trans (hst.cfg h).1, (htu.cfg h).2.trans (hst.cfg h).2⟩

/-- One write of a command stays in its frame: each write changes one part of the state, and the command may write it. -/
theorem WriteOf.frameOf (h : WriteOf i s t) : s.FrameOf i t := by
  cases h with
  | x r w hr =>
    exact { State.FrameOf.refl i s with
      readX := fun k hk => State.readX_writeX_of_ne s r k w fun e => hk (hr.trans (congrArg some e.symm)) }
  | q r w hr =>
    exact { State.FrameOf.refl i s with
      readQ := fun k hk => State.readQ_writeQ_of_ne s r k w fun e => hk (hr.trans (congrArg some e.symm)) }
  | v r l hr _ =>
    exact { State.FrameOf.refl i s with
      readV := fun k hk => State.readV_writeV_of_ne s r k l fun e => hk (hr.trans (congrArg some e.symm)) }
  | prngState w hw => exact { State.FrameOf.refl i s with prngState := fun hn => absurd hw (Bool.eq_false_iff.mp hn) }
  | prngInc w hw => exact { State.FrameOf.refl i s with prngInc := fun hn => absurd hw (Bool.eq_false_iff.mp hn) }
  | cfg xs w hi _ =>
    exact { State.FrameOf.refl i s with
      coef := fun hn => by rw [hi] at hn; cases hn
      cfg := fun hn => absurd hi (hn xs) }
  | coef j w hw _ => exact { State.FrameOf.refl i s with coef := fun hn => absurd hw (Bool.eq_false_iff.mp hn) }

/-- Several writes of a command stay in its frame. -/
theorem frameOf_of_writes (h : Relation.ReflTransGen (WriteOf i) s t) : s.FrameOf i t := by
  induction h with
  | refl => exact .refl i s
  | tail _ hw ih => exact ih.trans hw.frameOf

/-- The response of a command is outside every frame. -/
theorem State.FrameOf.respond (h : s.FrameOf i t) (st : BitVec 4) (d : U64) : s.FrameOf i (t.respond st d) :=
  ⟨h.readX, h.readQ, h.readV, h.prngState, h.prngInc, h.coef, h.cfg⟩

/-- The fault entry is outside every frame (60_exceptions R253). -/
theorem State.FrameOf.raise (i : Instr) (s : State) (c : Cause) (w : U32) : s.FrameOf i (s.raise c w) :=
  ⟨fun _ _ => rfl, fun _ _ => rfl, fun _ _ => rfl, fun _ => rfl, fun _ => rfl, fun _ => rfl, fun _ => ⟨rfl, rfl⟩⟩

/-- A command changes nothing outside its frame, whether it completes or faults. -/
theorem exec_frameOf (h : exec i s = .next t) : s.FrameOf i t := by
  rcases exec_byWrites i s with ⟨u, d, hu, hexec⟩ | ⟨c, hexec⟩
  · obtain rfl := finishWith_next.mp (hexec.symm.trans h)
    exact (frameOf_of_writes hu).respond statusOk d
  · obtain rfl := trap_next.mp (hexec.symm.trans h)
    exact .raise i s c (encodeWord i)

end Frames

/-- Settles O22: the register part of the frame of a command. -/
theorem registersChangeOnlyAsDestinations : Obligations.RegistersChangeOnlyAsDestinations :=
  fun _ _ _ h => ⟨(exec_frameOf h).readX, (exec_frameOf h).readQ, (exec_frameOf h).readV⟩

/-- Settles O23: the generator part of the frame of a command. -/
theorem generatorChangesOnlyByItsCommands : Obligations.GeneratorChangesOnlyByItsCommands :=
  fun _ _ _ h => ⟨(exec_frameOf h).prngState, (exec_frameOf h).prngInc⟩

/-- Settles O24: the part of the frame of a command that `C` and `CFG` are; equal memories read alike. -/
theorem coefficientsChangeOnlyByTheirCommands : Obligations.CoefficientsChangeOnlyByTheirCommands :=
  fun _ _ _ h => ⟨fun hi => State.readC_congr ((exec_frameOf h).coef hi), (exec_frameOf h).cfg⟩

end Sys2Proof.Machine

/-! Proofs about every step: it keeps the invariant (10_state R24 to R30) and the configuration, it is total (10_state R20),
and a halted block stays as it is (60_exceptions R255). -/

namespace Sys2Proof.Machine

section Invariant

variable {i : Instr} {s t : State}

theorem State.Inv.writeX (h : s.Inv) (r : XReg) (w : U64) : (s.writeX r w).Inv :=
  ⟨h.params_wf, h.lanes_ok, h.inc_odd, h.cfg_ok, h.coef_wf, h.latch_ok, h.responses_ok⟩

theorem State.Inv.writeQ (h : s.Inv) (r : QReg) (t : Limbs) : (s.writeQ r t).Inv :=
  ⟨h.params_wf, h.lanes_ok, h.inc_odd, h.cfg_ok, h.coef_wf, h.latch_ok, h.responses_ok⟩

theorem State.Inv.writePrngState (h : s.Inv) (w : U64) : (s.writePrngState w).Inv :=
  ⟨h.params_wf, h.lanes_ok, h.inc_odd, h.cfg_ok, h.coef_wf, h.latch_ok, h.responses_ok⟩

/-- What the host presents is no part of the invariant. -/
theorem State.Inv.withInputs (h : s.Inv) (inputs : List HostInput) : { s with inputs := inputs }.Inv :=
  ⟨h.params_wf, h.lanes_ok, h.inc_odd, h.cfg_ok, h.coef_wf, h.latch_ok, h.responses_ok⟩

/-- A vector register written with `LANES` lanes has `LANES` lanes, and the others are as they were (10_state R24). -/
theorem State.LanesOk.writeV (h : s.LanesOk) (r : VReg) {l : List U64} (hl : l.length = s.params.lanes) :
    (s.writeV r l).LanesOk := by
  intro k
  by_cases hk : k = r
  · rw [hk, State.readV_writeV_same, hl, State.writeV_params]
  · rw [State.readV_writeV_of_ne s r k l hk, h k, State.writeV_params]

theorem State.Inv.writeV (h : s.Inv) (r : VReg) {l : List U64} (hl : l.length = s.params.lanes) : (s.writeV r l).Inv :=
  ⟨h.params_wf, h.lanes_ok.writeV r hl, h.inc_odd, h.cfg_ok, h.coef_wf, h.latch_ok, h.responses_ok⟩

theorem State.Inv.writeInc (h : s.Inv) (w : U64) : (s.writeInc w).Inv :=
  ⟨h.params_wf, h.lanes_ok, State.writeInc_odd s w, h.cfg_ok, h.coef_wf, h.latch_ok, h.responses_ok⟩

theorem State.Inv.writeC (h : s.Inv) {j : Nat} (hj : j < s.params.kmax) (t : Limbs) : (s.writeC j t).Inv :=
  ⟨h.params_wf, h.lanes_ok, h.inc_odd, h.cfg_ok, Memory.write_wf h.coef_wf hj t, h.latch_ok, h.responses_ok⟩

/-- A legal word leaves `CFG` legal (10_state R28). -/
theorem State.cfgOk_writeCfg {w : U64} (hw : cfgLegal s.params w = true) : (s.writeCfg w).CfgOk := by
  rw [cfgLegal, Bool.and_eq_true, Bool.and_eq_true, decide_eq_true_eq] at hw
  obtain ⟨⟨_, hk⟩, hbk⟩ := hw
  exact ⟨hk, hbk⟩

theorem State.Inv.writeCfg (h : s.Inv) {w : U64} (hw : cfgLegal s.params w = true) : (s.writeCfg w).Inv :=
  ⟨h.params_wf, h.lanes_ok, h.inc_odd, State.cfgOk_writeCfg hw, Memory.cleared_wf _, h.latch_ok, h.responses_ok⟩

/-- Every write a command may make keeps the invariant. -/
theorem WriteOf.inv (hw : WriteOf i s t) (h : s.Inv) : t.Inv := by
  cases hw with
  | x r w _ => exact h.writeX r w
  | q r t _ => exact h.writeQ r t
  | v r l _ hl => exact h.writeV r (hl h.lanes_ok)
  | prngState w _ => exact h.writePrngState w
  | prngInc w _ => exact h.writeInc w
  | cfg _ w _ hl => exact h.writeCfg hl
  | coef j t _ hj => exact h.writeC (hj h.cfg_ok) t

theorem inv_of_writes (hw : Relation.ReflTransGen (WriteOf i) s t) (h : s.Inv) : t.Inv := by
  induction hw with
  | refl => exact h
  | tail _ hlast ih => exact hlast.inv ih

/-- One more legal response, standing at the response port, keeps the responses legal (30_encoding R71). -/
theorem State.ResponsesOk.respond (h : s.ResponsesOk) {st : BitVec 4} {d : U64} (hr : Response.Ok ⟨st, d⟩) :
    (s.respond st d).ResponsesOk := by
  obtain ⟨hall, _⟩ := h
  refine ⟨fun r hmem => ?_, .inr ?_⟩
  · rw [State.respond_responses, List.mem_append, List.mem_singleton] at hmem
    rcases hmem with hmem | rfl
    · exact hall r hmem
    · exact hr
  · rw [State.respond_responses, List.getLast?_concat, State.respond_rsp]

theorem State.Inv.respond (h : s.Inv) {st : BitVec 4} {d : U64} (hr : Response.Ok ⟨st, d⟩) : (s.respond st d).Inv :=
  ⟨h.params_wf, h.lanes_ok, h.inc_odd, h.cfg_ok, h.coef_wf, h.latch_ok, h.responses_ok.respond hr⟩

/-- A fault leaves a legal latch and a legal response (60_exceptions R251, R253). -/
theorem State.Inv.raise (h : s.Inv) (c : Cause) (w : U32) : (s.raise c w).Inv := by
  have hlatch : (s.raise c w).LatchOk := ⟨fun hrun => absurd hrun Bool.true_eq_false.mp, fun _ => causeCode_range c⟩
  have hrsp : Response.Ok ⟨causeCode c, 0⟩ := ⟨.inl (causeCode_range c).2, fun _ => rfl⟩
  exact ⟨h.params_wf, h.lanes_ok, h.inc_odd, h.cfg_ok, h.coef_wf, hlatch, h.responses_ok.respond hrsp⟩

/-- The refusal of a halted block keeps the invariant: status 0xF with data 0 is a legal response (60_exceptions R255). -/
theorem State.Inv.refuseHalted (h : s.Inv) : s.refuseHalted.Inv := h.respond ⟨.inr rfl, fun _ => rfl⟩

/-- A well-formed instance has a backend, and `CFG.BK` names one it has after reset (00_scope R6, 10_state R33). -/
theorem backendHas_resetBackend {p : Params} (h : p.wf = true) : backendHas p (resetBackend p) = true := by
  simp only [Params.wf, Bool.and_eq_true, Bool.or_eq_true] at h
  have hany : p.has61 = true ∨ p.has89 = true := by tauto
  rw [resetBackend]
  by_cases h61 : p.has61 = true
  · rw [if_pos h61, backendHas, h61]
  · rw [if_neg h61, backendHas, hany.resolve_left h61]

/-- The reset state of a well-formed instance meets the invariant (10_state R33). -/
theorem State.resetOf_inv {p : Params} (h : p.wf = true) : (State.resetOf p).Inv where
  params_wf := h
  lanes_ok r := by rw [State.readV_resetOf, List.length_replicate, State.resetOf_params]
  inc_odd := by rw [State.IncOdd, State.resetOf_prngInc]; decide
  cfg_ok := ⟨Nat.zero_le _, backendHas_resetBackend h⟩
  coef_wf := Memory.reset_wf p
  latch_ok := ⟨fun _ => ⟨rfl, rfl⟩, fun hf => by cases hf⟩
  responses_ok := ⟨fun _ hr => (List.not_mem_nil hr).elim, .inl rfl⟩

/-- A reset keeps the invariant; the responses given before it stand, none is at the port (70_reset R280, R281). -/
theorem State.Inv.applyReset (h : s.Inv) : s.applyReset.Inv :=
  have hreset := State.resetOf_inv h.params_wf
  ⟨hreset.params_wf, hreset.lanes_ok, hreset.inc_odd, hreset.cfg_ok, hreset.coef_wf, hreset.latch_ok,
    h.responses_ok.1, .inl rfl⟩

/-- A command keeps the invariant, whether it completes or faults. -/
theorem exec_inv (hexec : exec i s = .next t) (h : s.Inv) : t.Inv := by
  rcases exec_byWrites i s with ⟨u, d, hu, hdone⟩ | ⟨c, htrap⟩
  · obtain rfl := finishWith_next.mp (hdone.symm.trans hexec)
    exact (inv_of_writes hu h).respond ⟨.inl (Nat.zero_le _), fun hne => absurd rfl hne⟩
  · obtain rfl := trap_next.mp (htrap.symm.trans hexec)
    exact h.raise c _

end Invariant

/-- Settles O19: each of the five fronts of a step keeps the invariant, a command by the writes it makes. -/
theorem stepKeepsTheInvariant : Obligations.StepKeepsTheInvariant := by
  intro s t h hstep
  rw [step_eq] at hstep
  rcases front_cases s with ⟨_, hfront⟩ | ⟨_, rest, _, hfront⟩ | ⟨c, rest, _, _, hfront⟩ |
    ⟨c, rest, e, _, _, _, hfront⟩ | ⟨c, rest, i, _, _, _, hfront⟩ <;> rw [hfront] at hstep
  case inr.inr.inr.inr => exact exec_inv hstep (h.withInputs rest)
  all_goals obtain rfl := Host.Outcome.next.inj hstep
  · exact h
  · exact (h.withInputs rest).applyReset
  · exact (h.withInputs rest).refuseHalted
  · exact (h.withInputs rest).raise .illegalCommand c.word

/-- Settles O20: the reset state of every well-formed instance, the default one among them. -/
theorem resetMeetsTheInvariant : Obligations.ResetMeetsTheInvariant :=
  ⟨fun _ h => State.resetOf_inv h, State.resetOf_inv (by decide)⟩

section Steps

variable {s : State}

/-- A step with nothing presented changes nothing (10_state R20). -/
theorem step_idle (h : s.inputs = []) : step s = .next s := by
  rw [step_eq, front, h]

/-- A step on a reset, halted or not (70_reset R280). -/
theorem step_reset {inFlight : Option Command} {rest : List HostInput} (h : s.inputs = .reset inFlight :: rest) :
    step s = .next { s with inputs := rest }.applyReset := by
  rw [step_eq, front, h]

/-- A command in a running block answers a next state, the parameters as they were. -/
theorem exec_next_params (i : Instr) (s : State) : ∃ t, exec i s = .next t ∧ t.params = s.params := by
  rcases exec_answers i s with ⟨t, ht, hexec⟩ | ⟨c, _, hexec⟩
  · exact ⟨_, hexec, ht.params⟩
  · exact ⟨_, hexec, rfl⟩

/-- Every step answers a next state, the parameters as they were (10_state R20, 00_scope R5). -/
theorem step_next_params (s : State) : ∃ t, step s = .next t ∧ t.params = s.params := by
  rw [step_eq]
  rcases front_cases s with ⟨_, hfront⟩ | ⟨_, rest, _, hfront⟩ | ⟨c, rest, _, _, hfront⟩ |
    ⟨c, rest, e, _, _, _, hfront⟩ | ⟨c, rest, i, _, _, _, hfront⟩ <;> rw [hfront]
  case inr.inr.inr.inr => exact exec_next_params i _
  all_goals exact ⟨_, rfl, rfl⟩

/-- A run whose first step answers a next state goes on from there. -/
theorem run_succ_of_step {M : Host.Core} {s t : M.State} (h : M.step s = .next t) (n : Nat) :
    M.run (n + 1) s = M.run n t := by
  rw [Host.Core.run, h]

/-- The halted state `s` after it refused every one of the commands `cs` it was presented (60_exceptions R255). -/
def State.afterRefusals (s : State) (cs : List Command) : State :=
  { s with
    inputs := [], rsp := (if cs = [] then s.rsp else some ⟨0xF, 0⟩),
    responses := s.responses ++ List.replicate cs.length ⟨0xF, 0⟩ }

/-- No refusal leaves everything as it was, nothing being presented. -/
theorem State.afterRefusals_nil (h : s.inputs = []) : s.afterRefusals [] = s := by
  rw [State.afterRefusals, if_pos rfl, List.length_nil, List.replicate_zero, List.append_nil, ← h]

/-- Refusing a command and then the others is refusing all of them. -/
theorem State.refuseHalted_afterRefusals (s : State) (inputs : List HostInput) (c : Command) (cs : List Command) :
    { s with inputs := inputs }.refuseHalted.afterRefusals cs = s.afterRefusals (c :: cs) := by
  simp [State.afterRefusals, State.refuseHalted, State.respond, statusHalted, List.replicate_succ]

/-- A halted block refuses every command it is presented (60_exceptions R255). -/
theorem run_halted (cs : List Command) (s : State) (hs : s.Halted) (hin : s.inputs = cs.map .command) :
    core.run cs.length s = .next (s.afterRefusals cs) := by
  induction cs generalizing s with
  | nil => exact congrArg Host.Outcome.next (State.afterRefusals_nil hin).symm
  | cons c cs ih =>
    have hstep := step_command_halted (hin.trans (List.map_cons ..)) hs
    have hrest := ih { s with inputs := cs.map .command }.refuseHalted hs rfl
    rw [State.refuseHalted_afterRefusals s _ c cs] at hrest
    exact (run_succ_of_step (M := core) hstep cs.length).trans hrest

end Steps

/-- Settles O2: the step on a reset is the reset state of the same instance, whose output ports are all 0. -/
theorem resetInputGivesTheResetState : Obligations.ResetInputGivesTheResetState :=
  fun _ _ _ hin => ⟨_, step_reset hin, State.applyReset_eq _, rfl⟩

/-- Settles O3: the front of the step on a command that decodes. -/
theorem stepRunsTheDecodedInstruction : Obligations.StepRunsTheDecodedInstruction :=
  fun _ _ _ _ hs hin hdec => step_command_decoded hin hs hdec

/-- Settles O4: every front of a step settles on a state or executes a command, which answers one. -/
theorem stepIsTotal : Obligations.StepIsTotal := by
  refine fun s => ⟨?_, step_idle⟩
  obtain ⟨t, hstep, _⟩ := step_next_params s
  exact ⟨t, hstep⟩

/-- Settles O6: by induction on the commands, each refused in the state the one before it left. -/
theorem haltedUntilReset : Obligations.HaltedUntilReset :=
  fun s cs hs hin => ⟨_, run_halted cs s hs hin, rfl⟩

/-- Settles O21: the step keeps the parameters, and `HWCFG` is a function of them. -/
theorem parametersNeverChange : Obligations.ParametersNeverChange := by
  intro s t hstep
  obtain ⟨u, hu, hparams⟩ := step_next_params s
  obtain rfl := Host.Outcome.next.inj (hu.symm.trans hstep)
  exact ⟨hparams, by rw [State.readCsr_hwcfg, State.readCsr_hwcfg, hparams]⟩

/-- Settles O9: a command that completes keeps the latch and answers status 0; one that faults takes a listed cause. -/
theorem faultsRaisedAreTheListedOnes : Obligations.FaultsRaisedAreTheListedOnes := by
  intro i s t hs hexec
  rcases exec_answers i s with ⟨u, hu, hdone⟩ | ⟨c, hc, htrap⟩
  · obtain rfl := finishWith_next.mp (hdone.symm.trans hexec)
    refine .inr ⟨hu.fault.trans hs, hu.fcause, hu.fcmd, rspData i s, rfl, ?_⟩
    rw [State.respond_responses, hu.responses, statusOk]
  · obtain rfl := trap_next.mp (htrap.symm.trans hexec)
    exact .inl ⟨c, hc, raise_eq_faulted s c _⟩

end Sys2Proof.Machine

/-! Proofs about single commands and short sequences: which check refuses first (60_exceptions R254), the generator
(41_prng R101 to R106) and the limb moves (47_move_system R229). -/

namespace Sys2Proof.Machine

section Refusals

variable (s : State)

/-- A running block that is presented a word the decoder refuses takes `IllegalCommand` with this word (30_encoding R79). -/
theorem step_present_illegal {s : State} (hs : s.Running) {c : Command} {e : DecodeError} (hdec : decode c = .error e) :
    step (s.present c) = .next (s.faulted 1 c.word) :=
  (step_command_illegal (s := s.present c) rfl hs hdec).trans (congrArg _ (raise_eq_faulted s .illegalCommand c.word))

/-- 0x48400000 is refused for a vector specifier above 3, whatever the data word (30_encoding R73). -/
theorem decode_vpeval_specifier (d : U64) : decode ⟨0x48400000, d⟩ = .error .specifierAbove3 := by
  have hfields : fieldsOf 0x48400000 = ⟨0x48, 4, 0, 0, 0, 0⟩ := by decide
  rw [decode, hfields]
  rfl

/-- 0x09110007 is refused for a field that `CWR` does not use, whatever the data word (30_encoding R74). -/
theorem decode_cwr_unused_field (d : U64) : decode ⟨0x09110007, d⟩ = .error .unusedFieldNotZero := by
  have hfields : fieldsOf 0x09110007 = ⟨0x09, 1, 1, 0, 0, 7⟩ := by decide
  rw [decode, hfields]
  rfl

/-- `PEVAL` executes as its definition in the polynomial unit (46_poly R206). -/
theorem exec_peval (xd xs : XReg) : exec (.peval xd xs) s = execPeval xd xs s := rfl

/-- `CGEN` executes as its definition in the polynomial unit (46_poly R207). -/
theorem exec_cgen : exec .cgen s = execCgen s := rfl

variable {s}

/-- `PEVAL` without an instance faults (46_poly R206). -/
theorem execPeval_of_no_instance (hk : s.cfgK = 0) (xd xs : XReg) :
    execPeval xd xs s = trap .config (.peval xd xs) s := if_pos hk

/-- `CGEN` without an instance faults (46_poly R207). -/
theorem execCgen_of_no_instance (hk : s.cfgK = 0) : execCgen s = trap .config .cgen s := if_pos hk

end Refusals

/-- Settles O18: decoding comes before execution, so that a word it refuses is illegal whatever it would have done; the
two words written out are refused for a specifier and for an unused field. -/
theorem firstFailingCheckDecides : Obligations.FirstFailingCheckDecides := by
  intro s hs
  refine ⟨fun c e hdec => step_present_illegal hs hdec, fun d => ⟨?specifier, ?unusedField⟩, fun xs => ?hwcfg,
    fun hk xd xs => ?noInstance⟩
  case specifier => exact step_present_illegal hs (decode_vpeval_specifier d)
  case unusedField => exact step_present_illegal hs (decode_cwr_unused_field d)
  case hwcfg => rw [exec_cwr, execCwr_hwcfg, trap_eq_faulted, causeCode]
  case noInstance => rw [exec_peval, execPeval_of_no_instance hk, trap_eq_faulted, causeCode]

/-- Settles O54: the check of `CFG.K` comes first in both commands and does not read `CFG.BK`. -/
theorem noInstanceIsAConfigFault : Obligations.NoInstanceIsAConfigFault := by
  intro s d k _ hk
  have hword : encodeWord .cgen = 0x41000000 := by decide
  refine ⟨by rw [encodeWord, encodeFields], ?peval, hword, ?cgen⟩
  case peval => rw [exec_peval, execPeval_of_no_instance hk, trap_eq_faulted, causeCode]
  case cgen => rw [exec_cgen, execCgen_of_no_instance hk, trap_eq_faulted, causeCode, hword]

section Generator

variable (s : State)

/-- `PSEED` executes as its definition in the generator (41_prng R103). -/
theorem exec_pseed (xa xb : XReg) : exec (.pseed xa xb) s = execPseed xa xb s := rfl

/-- The advance of the state by numbers (41_prng R101). -/
theorem prngAdvance_eq_ofNat (old inc : U64) :
    prngAdvance old inc = BitVec.ofNat 64 (6364136223846793005 * old.toNat + inc.toNat) := by
  rw [prngAdvance, pcgMult, BitVec.ofNat_add, BitVec.ofNat_mul, BitVec.ofNat_toNat, BitVec.ofNat_toNat,
    BitVec.setWidth_eq, BitVec.setWidth_eq]
  rfl

/-- `ror32` by less than 32 is the rotation of bit vectors (00_scope R10). -/
theorem ror32_eq_rotateRight (v : U32) {r : Nat} (hr : r < 32) : ror32 v r = v.rotateRight r := by
  rw [ror32, BitVec.rotateRight_def, Nat.mod_eq_of_lt hr]
  rcases Nat.eq_zero_or_pos r with rfl | hpos
  · simp
  · rw [Nat.mod_eq_of_lt (by omega)]

/-- The rotation amount of a draw: the top five bits of the state (41_prng R101). -/
theorem rotation_toNat (old : U64) : (old.extractLsb' 59 5).toNat = old.toNat / 2 ^ 59 := by
  have hlt := old.isLt
  rw [BitVec.extractLsb'_toNat, Nat.shiftRight_eq_div_pow]
  omega

/-- The output of a draw with the cut and the rotation of bit vectors (41_prng R101). -/
theorem prngOutput_eq_rotateRight (old : U64) :
    prngOutput old = ((((old >>> 18) ^^^ old) >>> 27).setWidth 32).rotateRight (old.toNat / 2 ^ 59) := by
  have hlt := old.isLt
  rw [prngOutput, rotation_toNat, ror32_eq_rotateRight _ (by omega), ← lo32, lo32_eq_setWidth]

end Generator

/-- Settles O32: two writes, the registers being read before the first. -/
theorem pseedConstructsTheGenerator : Obligations.PseedConstructsTheGenerator := by
  intro s a b _
  refine ⟨by rw [encodeWord, encodeFields], ?_⟩
  rw [exec_pseed, execPseed, finish_writeInc, State.writePrngState]

/-- Settles O33: a draw writes `STATE` alone, and its two values are those of bit-vector arithmetic. -/
theorem next32IsTheStatedTransform : Obligations.Next32IsTheStatedTransform := by
  intro s
  rw [next32_fst, prngOutput_eq_rotateRight, next32, prngAdvance_eq_ofNat]
  exact ⟨rfl, rfl⟩

section DrawSequences

variable {s s1 s2 : State}

/-- Several commands, the first of which answers `t`. -/
theorem execAll_cons {i : Instr} {t : State} (h : exec i s = .next t) (rest : List Instr) :
    execAll (i :: rest) s = execAll rest t := by
  rw [execAll, h]

/-- A completed command answers the state it completed in, but for the response. -/
theorem readX_respond (st : BitVec 4) (d : U64) (r : XReg) : (s.respond st d).readX r = s.readX r := rfl

theorem readQ_respond (st : BitVec 4) (d : U64) (r : QReg) : (s.respond st d).readQ r = s.readQ r := rfl

theorem readX_writePrngState (w : U64) (r : XReg) : (s.writePrngState w).readX r = s.readX r := rfl

/-- What a draw command does, the number of its draws and the word it writes being those of its mnemonic (41_prng R104,
R105): the same two values from the same generator. -/
theorem exec_draw {i : Instr} {r : XReg} (hi : i = .pnext32 r ∨ i = .pnext64 r) (h1 : s1.prngState = s2.prngState)
    (h2 : s1.prngInc = s2.prngInc) :
    i.destX = some r ∧ ∃ g w, exec i s1 = finish ((s1.writePrngState g).writeX r w) ∧
      exec i s2 = finish ((s2.writePrngState g).writeX r w) := by
  have hdraw : ∀ n, s1.drawNumber n = s2.drawNumber n := fun n => by rw [State.drawNumber, State.drawNumber, h1, h2]
  rcases hi with rfl | rfl
  · refine ⟨rfl, _, _, execPnext32_eq s1 r, ?_⟩
    rw [exec_pnext32, execPnext32_eq, h1, h2, hdraw]
  · refine ⟨rfl, _, _, execPnext64_eq s1 r, ?_⟩
    rw [exec_pnext64, execPnext64_eq, h1, h2, hdraw, hdraw]

/-- A sequence of draws from two states with the same generator: the registers that agree at its start or are drawn into
agree at its end (41_prng R106). -/
theorem execAll_draws (is : List Instr) (s1 s2 : State) (hdraws : ∀ i ∈ is, ∃ r, i = .pnext32 r ∨ i = .pnext64 r)
    (h1 : s1.prngState = s2.prngState) (h2 : s1.prngInc = s2.prngInc) :
    ∃ t1 t2, execAll is s1 = .next t1 ∧ execAll is s2 = .next t2 ∧ t1.prngState = t2.prngState ∧
      t1.prngInc = t2.prngInc ∧
      ∀ r, (s1.readX r = s2.readX r ∨ ∃ i ∈ is, i.destX = some r) → t1.readX r = t2.readX r := by
  induction is generalizing s1 s2 with
  | nil => exact ⟨s1, s2, rfl, rfl, h1, h2, fun r hr => hr.resolve_right (by simp)⟩
  | cons i is ih =>
    obtain ⟨r, hi⟩ := hdraws i (List.mem_cons_self ..)
    obtain ⟨hdest, g, w, he1, he2⟩ := exec_draw hi h1 h2
    obtain ⟨t1, t2, ht1, ht2, hstate, hinc, hread⟩ := ih (((s1.writePrngState g).writeX r w).respond statusOk 0)
      (((s2.writePrngState g).writeX r w).respond statusOk 0) (fun j hj => hdraws j (List.mem_cons_of_mem _ hj)) rfl h2
    refine ⟨t1, t2, (execAll_cons he1 is).trans ht1, (execAll_cons he2 is).trans ht2, hstate, hinc, fun k hk => ?_⟩
    refine hread k ?_
    by_cases hkr : k = r
    · exact .inl (by rw [readX_respond, readX_respond, hkr, State.readX_writeX_same, State.readX_writeX_same])
    · rcases hk with hk | ⟨j, hj, hjk⟩
      · refine .inl ?_
        rw [readX_respond, readX_respond, State.readX_writeX_of_ne _ _ _ _ hkr, State.readX_writeX_of_ne _ _ _ _ hkr,
          readX_writePrngState, readX_writePrngState, hk]
      · rcases List.mem_cons.mp hj with rfl | hj
        · exact absurd (Option.some.inj (hjk.symm.trans hdest)) hkr
        · exact .inr ⟨j, hj, hjk⟩

end DrawSequences

/-- Settles O36: the induction of `execAll_draws`, read for the registers drawn into. -/
theorem drawsDependOnlyOnTheGenerator : Obligations.DrawsDependOnlyOnTheGenerator := by
  intro is s1 s2 _ _ hdraws h1 h2
  obtain ⟨t1, t2, ht1, ht2, hstate, hinc, hread⟩ := execAll_draws is s1 s2 hdraws h1 h2
  exact ⟨t1, t2, ht1, ht2, hstate, hinc, fun i hi r hr => hread r (.inr ⟨i, hi, hr⟩)⟩

/-- Settles O35: both end one draw further twice; the second `PNEXT32` draws from the state the first left. -/
theorem pnext64IsTwoPnext32 : Obligations.Pnext64IsTwoPnext32 := by
  intro s d a _
  refine ⟨_, _, _, execPnext32_eq s a, execPnext32_eq _ a, execPnext64_eq s d, rfl, rfl, ?_⟩
  rw [readX_respond, readX_respond, readX_respond, State.readX_writeX_same, State.readX_writeX_same,
    State.readX_writeX_same, toNat_append_eq_add, BitVec.toNat_setWidth_of_le (by decide),
    BitVec.toNat_setWidth_of_le (by decide), Nat.mul_comm]
  rfl

section LimbRoundTrips

/-- A limb triple is put together again from its two parts (47_move_system R229). -/
theorem limbsOfPair_val64_zext64 (t : Limbs) : limbsOfPair (val64 t) (zext64 t.l2) = t := by
  obtain ⟨l0, l1, l2⟩ := t
  have h0 := l0.isLt
  rw [limbsOfPair_eq, val64_toNat, zext64, BitVec.toNat_setWidth_of_le (by decide), Limbs.mk.injEq]
  refine ⟨BitVec.eq_of_toNat_eq ?_, BitVec.eq_of_toNat_eq ?_, BitVec.eq_of_toNat_eq ?_⟩ <;>
    simp only [BitVec.toNat_ofNat] <;> omega

/-- The low two limbs of the triple `QSET` builds are its first scalar (47_move_system R229). -/
theorem val64_limbsOfPair (a b : U64) : val64 (limbsOfPair a b) = a := by
  have ha := a.isLt
  apply BitVec.eq_of_toNat_eq
  simp only [val64_toNat, limbsOfPair_eq, BitVec.toNat_ofNat]
  omega

/-- The high limb of the triple `QSET` builds is the low half of its second scalar (47_move_system R229). -/
theorem zext64_limbsOfPair_l2 (a b : U64) : (zext64 (limbsOfPair a b).l2).toNat = b.toNat % 2 ^ 32 := by
  rw [limbsOfPair_eq, zext64, BitVec.toNat_setWidth_of_le (by decide), BitVec.toNat_ofNat]

variable {s t u v : State}

/-- Three commands, each from the state the one before it answers. -/
theorem execAll_three {i j k : Instr} (h1 : exec i s = .next t) (h2 : exec j t = .next u) (h3 : exec k u = .next v) :
    execAll [i, j, k] s = .next v := by
  rw [execAll_cons h1, execAll_cons h2, execAll_cons h3, execAll]

variable (s)

/-- `QGETL` as the write it makes (47_move_system R227). -/
theorem exec_qgetl_next (xd : XReg) (qs : QReg) :
    exec (.qgetl xd qs) s = .next ((s.writeX xd (val64 (s.readQ qs))).respond statusOk 0) := rfl

/-- `QGETH` as the write it makes (47_move_system R228). -/
theorem exec_qgeth_next (xd : XReg) (qs : QReg) :
    exec (.qgeth xd qs) s = .next ((s.writeX xd (zext64 (s.readQ qs).l2)).respond statusOk 0) := rfl

/-- `QSET` as the write it makes (47_move_system R226). -/
theorem exec_qset_next (qd : QReg) (lo hi : XReg) :
    exec (.qset qd lo hi) s = .next ((s.writeQ qd (limbsOfPair (s.readX lo) (s.readX hi))).respond statusOk 0) := rfl

theorem readQ_writeX (r : XReg) (w : U64) (k : QReg) : (s.writeX r w).readQ k = s.readQ k := rfl

end LimbRoundTrips

/-- Settles O31: the three commands as the three writes they make; a write of one register leaves the other to be read. -/
theorem limbMovesRoundTrip : Obligations.LimbMovesRoundTrip := by
  refine ⟨fun s qs qd a b _ hab =>
      ⟨_, execAll_three (exec_qgetl_next s a qs) (exec_qgeth_next _ b qs) (exec_qset_next _ qd a b), ?triple⟩,
    fun s qd a b c e _ hce =>
      ⟨_, execAll_three (exec_qset_next s qd a b) (exec_qgetl_next _ c qd) (exec_qgeth_next _ e qd), ?low, ?high⟩⟩
  case triple =>
    rw [readQ_respond, State.readQ_writeQ_same, readX_respond, readX_respond, State.readX_writeX_same,
      State.readX_writeX_of_ne _ _ _ _ hab, readX_respond, State.readX_writeX_same, readQ_respond, readQ_writeX,
      limbsOfPair_val64_zext64]
  case low =>
    rw [readX_respond, State.readX_writeX_of_ne _ _ _ _ hce, readX_respond, State.readX_writeX_same, readQ_respond,
      State.readQ_writeQ_same, val64_limbsOfPair]
  case high =>
    rw [readX_respond, State.readX_writeX_same, readQ_respond, readQ_writeX, readQ_respond, State.readQ_writeQ_same,
      zext64_limbsOfPair_l2]

end Sys2Proof.Machine

/-! Proofs about the mixers: the default lists written out (42_mixers R122, R123), both 64-bit mixers as bijections
(42_mixers R124, R127), and the vector forms lane by lane (43_vector_mixers R143). -/

namespace Sys2Proof.Machine

section DefaultMixer

variable {n : Nat} (x : BitVec n)

/-- A product by a sum of two constants. -/
theorem mul_ofNat_add (c d : Nat) : x * BitVec.ofNat n (c + d) = x * BitVec.ofNat n c + x * BitVec.ofNat n d := by
  rw [BitVec.ofNat_add, BitVec.mul_add]

/-- A multiplier with two bits set is a word plus one shift of it (42_mixers R121, notes). -/
theorem applyStep_mul_two (s : Nat) : applyStep n (.mul (1 + 2 ^ s)) x = x + x <<< s := by
  rw [applyStep, mul_ofNat_add, ← shiftLeft_eq_mul_ofNat_two_pow, BitVec.mul_one]

/-- A multiplier with three bits set is a word plus two shifts of it (42_mixers R121, notes). -/
theorem applyStep_mul_three (s t : Nat) : applyStep n (.mul (1 + 2 ^ s + 2 ^ t)) x = x + x <<< s + x <<< t := by
  rw [applyStep, mul_ofNat_add, ← shiftLeft_eq_mul_ofNat_two_pow, ← applyStep, applyStep_mul_two]

end DefaultMixer

/-- Settles O39: the steps of the two lists in order, each multiplier being a sum of powers of two. -/
theorem defaultMixerAIsTheListedSteps : Obligations.DefaultMixerAIsTheListedSteps := by
  constructor
  · intro x
    have h265 := fun y : U64 => applyStep_mul_three y 3 8
    have h21 := fun y : U64 => applyStep_mul_three y 2 4
    have hlast := fun y : U64 => applyStep_mul_two y 31
    simp only [Nat.reducePow, Nat.reduceAdd] at h265 h21 hlast
    simp only [mixA64, Params.default, applySteps, h265, h21, hlast]
    simp only [applyStep]
  · intro x
    have h9 := fun y : U32 => applyStep_mul_two y 3
    simp only [Nat.reducePow, Nat.reduceAdd] at h9
    simp only [mixA32, Params.default, applySteps, h9]
    simp only [applyStep]

section Bijections

variable {n : Nat}

/-- A product by an odd constant loses nothing: the constant is invertible modulo `2 ^ n` (42_mixers R124). -/
theorem mul_left_injective_of_odd {a : BitVec n} (ha : a.toNat % 2 = 1) : Function.Injective fun x => a * x := by
  intro x y hxy
  have hcop : Nat.gcd (2 ^ n) a.toNat = 1 := Nat.Coprime.pow_left n (Nat.coprime_two_left.mpr (Nat.odd_iff.mpr ha))
  have hmod : a.toNat * x.toNat ≡ a.toNat * y.toNat [MOD 2 ^ n] := by
    have := congrArg BitVec.toNat hxy
    rwa [BitVec.toNat_mul, BitVec.toNat_mul] at this
  have hmod := Nat.ModEq.cancel_left_of_coprime hcop hmod
  exact BitVec.eq_of_toNat_eq (hmod.eq_of_lt_of_lt x.isLt y.isLt)

/-- The same with the constant on the right. -/
theorem mul_right_injective_of_odd {a : BitVec n} (ha : a.toNat % 2 = 1) : Function.Injective fun x => x * a := by
  rw [funext fun x => BitVec.mul_comm x a]
  exact mul_left_injective_of_odd ha

/-- Xor with a right shift by at least 1 loses nothing: a difference of two words with the same image would be its own
shift (42_mixers R124). -/
theorem xor_ushiftRight_injective {s : Nat} (hs : 1 ≤ s) : Function.Injective fun x : BitVec n => x ^^^ (x >>> s) := by
  intro x y hxy
  have hdiff : x ^^^ y = (x ^^^ y) >>> s := by
    rw [BitVec.ushiftRight_xor_distrib, ← BitVec.xor_eq_zero_iff]
    calc x ^^^ y ^^^ (x >>> s ^^^ y >>> s)
      _ = (x ^^^ x >>> s) ^^^ (y ^^^ y >>> s) := by ac_rfl
      _ = 0 := BitVec.xor_eq_zero_iff.mpr hxy
  have hzero : (x ^^^ y).toNat = 0 := by
    have hdiv := congrArg BitVec.toNat hdiff
    rw [BitVec.toNat_ushiftRight, Nat.shiftRight_eq_div_pow] at hdiv
    by_contra hne
    exact (Nat.div_lt_self (Nat.pos_of_ne_zero hne) (Nat.one_lt_two_pow (by omega))).ne hdiv.symm
  exact BitVec.xor_eq_zero_iff.mp (BitVec.eq_of_toNat_eq hzero)

/-- A shift amount of a 64-bit step is at least 1 (00_scope R6). -/
theorem one_le_of_shiftOk {m s : Nat} (h : shiftOk m s = true) : 1 ≤ s := by
  rw [shiftOk, Bool.and_eq_true, decide_eq_true_iff] at h
  exact h.1

/-- A power of two of a shift amount, as a 64-bit word, is even. -/
theorem two_pow_even {s : Nat} (hs : 1 ≤ s) : (BitVec.ofNat 64 (2 ^ s)).toNat % 2 = 0 := by
  have hpow : 2 ^ s = 2 * 2 ^ (s - 1) := (mul_pow_sub_one (by omega) 2).symm
  rw [BitVec.toNat_ofNat, hpow]
  omega

/-- Every well-formed step of the 64-bit form loses nothing: it is affine with an odd multiplier, or the xor with a shift
(42_mixers R124). -/
theorem applyStep_injective {step : MixStep} (h : step.wf64 = true) : Function.Injective (applyStep 64 step) := by
  cases step with
  | cadd s =>
    have heven := two_pow_even (one_le_of_shiftOk h)
    have hodd : (BitVec.ofNat 64 (2 ^ s) - 1).toNat % 2 = 1 := by bv_omega
    rw [funext fun x => applyStep_cadd x s]
    exact sub_left_injective.comp (mul_left_injective_of_odd hodd)
  | addc s =>
    have heven := two_pow_even (one_le_of_shiftOk h)
    have hodd : (1 - BitVec.ofNat 64 (2 ^ s)).toNat % 2 = 1 := by bv_omega
    rw [funext fun x => applyStep_addc x s]
    exact sub_left_injective.comp (mul_left_injective_of_odd hodd)
  | xsr s => exact xor_ushiftRight_injective (one_le_of_shiftOk h)
  | mul c =>
    rw [MixStep.wf64, Bool.and_eq_true, decide_eq_true_iff, decide_eq_true_iff] at h
    have hodd : (BitVec.ofNat 64 c).toNat % 2 = 1 := by rw [BitVec.toNat_ofNat]; omega
    exact mul_right_injective_of_odd hodd

/-- A list of steps that lose nothing loses nothing. -/
theorem applySteps_injective {l : List MixStep} (h : ∀ step ∈ l, step.wf64 = true) :
    Function.Injective (applySteps 64 l) := by
  induction l with
  | nil => exact Function.injective_id
  | cons step rest ih =>
    exact (ih fun t ht => h t (List.mem_cons_of_mem _ ht)).comp (applyStep_injective (h step (List.mem_cons_self ..)))

/-- What well-formedness says of the two 64-bit mixers (00_scope R6). -/
theorem mixers_wf {p : Params} (h : p.wf = true) :
    (∀ step ∈ p.mixA64Steps, step.wf64 = true) ∧ 1 ≤ p.mixBS1 ∧ 1 ≤ p.mixBS2 ∧ 1 ≤ p.mixBS3 ∧
      p.mixBM1.toNat % 2 = 1 ∧ p.mixBM2.toNat % 2 = 1 := by
  simp only [Params.wf, shiftOk, Bool.and_eq_true, List.all_eq_true, decide_eq_true_eq] at h
  tauto

/-- One round of Mixer B loses nothing (42_mixers R127). -/
theorem xorShift_injective {s : Nat} (hs : 1 ≤ s) : Function.Injective (xorShift · s) := xor_ushiftRight_injective hs

/-- Mixer B of a well-formed set loses nothing: three rounds, and a product by an odd constant between two (R127). -/
theorem mixB64_injective {p : Params} (h : p.wf = true) : Function.Injective (mixB64 p) := by
  obtain ⟨_, hs1, hs2, hs3, hm1, hm2⟩ := mixers_wf h
  exact (xorShift_injective hs3).comp ((mul_right_injective_of_odd hm2).comp ((xorShift_injective hs2).comp
    ((mul_right_injective_of_odd hm1).comp (xorShift_injective hs1))))

/-- Mixer B maps 0 to 0, whatever the set (42_mixers R127). -/
theorem mixB64_zero (p : Params) : mixB64 p 0 = 0 := by
  simp [mixB64, xorShift]

/-- `MIXB64` executes as its definition in the mixer unit (42_mixers R127). -/
theorem exec_mixb64 (s : State) (d r : XReg) : exec (.mixb64 d r) s = execMixb64 d r s := rfl

end Bijections

/-- Settles O40: a list of steps that each lose nothing, on a finite type. -/
theorem mixerAIsABijection : Obligations.MixerAIsABijection := by
  intro p h
  obtain ⟨hsteps, _⟩ := mixers_wf h
  exact Finite.injective_iff_bijective.mp (applySteps_injective hsteps)

/-- Settles O41: the command is one write of the three rounds; the function loses nothing, on a finite type. -/
theorem mixerBIsTheThreeRoundFinalizer : Obligations.MixerBIsTheThreeRoundFinalizer := by
  refine ⟨fun s d r _ => ⟨by rw [encodeWord, encodeFields], _, _, _, _, _, rfl, rfl, rfl, rfl, rfl, ?_⟩, mixB64_zero,
    fun p h => Finite.injective_iff_bijective.mp (mixB64_injective h)⟩
  rw [exec_mixb64, execMixb64, finish_writeX]
  rfl

section VectorMixers

variable {s : State}

/-- A lane of a register written by a lane-parallel function is the function of the lane (43_vector_mixers R140). -/
theorem readLane_writeV_map (f : U64 → U64) (vd vs : VReg) {j : Nat} (hj : j < (s.readV vs).length) :
    ((s.writeV vd ((s.readV vs).map f)).respond statusOk 0).readLane vd j = f (s.readLane vs j) := by
  have hread : ((s.writeV vd ((s.readV vs).map f)).respond statusOk 0).readV vd = (s.readV vs).map f :=
    State.readV_writeV_same s vd _
  rw [State.readLane, hread, State.readLane, List.getD_eq_getElem _ _ (by rwa [List.length_map]), List.getElem_map,
    List.getD_eq_getElem _ _ hj]

/-- A lane-parallel function and the same function on a register agree where lane and register do (R143). -/
theorem lane_eq_scalar (f : U64 → U64) (vd vs : VReg) (xd : XReg) {r : XReg} {j : Nat} (hj : j < (s.readV vs).length)
    (hr : s.readX r = s.readLane vs j) :
    ((s.writeV vd ((s.readV vs).map f)).respond statusOk 0).readLane vd j =
        ((s.writeX xd (f (s.readX r))).respond statusOk 0).readX xd ∧
      ((s.writeV vd ((s.readV vs).map f)).respond statusOk 0).readLane vd j = f (s.readLane vs j) := by
  rw [readLane_writeV_map f vd vs hj, readX_respond, State.readX_writeX_same, hr]
  exact ⟨rfl, rfl⟩

end VectorMixers

/-- Settles O43: both mixers are one function mapped over the lanes, which the scalar command applies to its register. -/
theorem scalarAndVectorMixersAgree : Obligations.ScalarAndVectorMixersAgree := by
  intro s vd vs xd r j _ hlanes hj hr
  have hlane : j < (s.readV vs).length := hj.trans_eq (hlanes vs).symm
  exact ⟨⟨_, _, rfl, rfl, lane_eq_scalar (mixA64 s.params) vd vs xd hlane hr⟩,
    ⟨_, _, rfl, rfl, lane_eq_scalar (mixB64 s.params) vd vs xd hlane hr⟩⟩

end Sys2Proof.Machine

/-! Proofs about Backend 61: `Reduce61` and `MulMod61` are residues modulo `2^61 - 1` (44_mod61 R161 to R164). -/

namespace Sys2Proof.Machine

section Backend61

/-- The loop of `Reduce61` stops below `2 * P61` (44_mod61 R161). -/
theorem foldLoop61_of_lt {x : Nat} (hx : x < 2 * p61) (n : Nat) : foldLoop61 n x = x := by
  cases n with
  | zero => rfl
  | succ n => rw [foldLoop61, if_neg (by omega)]

/-- Rounds of the loop of `Reduce61` add up. -/
theorem foldLoop61_add (m n x : Nat) : foldLoop61 (m + n) x = foldLoop61 n (foldLoop61 m x) := by
  induction m generalizing x with
  | zero => rw [Nat.zero_add, foldLoop61]
  | succ m ih =>
    rw [Nat.succ_add, foldLoop61, foldLoop61]
    split
    · exact ih (fold61 x)
    · exact (foldLoop61_of_lt (by omega) n).symm

theorem mod_p61_lt (x : Nat) : x % p61 < p61 := Nat.mod_lt _ (by decide)

/-- The product of two words is exact in 128 bits (44_mod61 R162). -/
theorem zext128_mul_toNat (a b : U64) : (zext128 a * zext128 b).toNat = a.toNat * b.toNat := by
  have hlt : a.toNat * b.toNat < 2 ^ 128 :=
    (Nat.mul_lt_mul'' a.isLt b.isLt).trans_eq (by rw [← Nat.pow_add])
  rw [BitVec.toNat_mul, zext128, zext128, BitVec.toNat_setWidth_of_le (by decide),
    BitVec.toNat_setWidth_of_le (by decide), Nat.mod_eq_of_lt hlt]

/-- `MulMod61` is the residue of the product (44_mod61 R162). -/
theorem mulMod61_toNat (a b : U64) : (mulMod61 a b).toNat = a.toNat * b.toNat % p61 := by
  rw [mulMod61, reduce61_toNat, zext128_mul_toNat]

/-- `Reduce61` is the word of the residue (44_mod61 R161). -/
theorem reduce61_eq_ofNat (x : U128) : reduce61 x = BitVec.ofNat 64 (x.toNat % p61) := by
  rw [← reduce61_toNat, BitVec.ofNat_toNat, BitVec.setWidth_eq]

/-- A value joined from two words, by numbers (00_scope R8). -/
theorem join64_toNat (hi lo : U64) : (join64 hi lo).toNat = hi.toNat * 2 ^ 64 + lo.toNat := by
  rw [join64, toNat_append_eq_add, Nat.mul_comm]

variable {s : State} (d a b : XReg)

/-- `RED61` with Backend 61 (44_mod61 R163). -/
theorem exec_red61_of_has (h : s.params.has61 = true) :
    exec (.red61 d a b) s = finish (s.writeX d (reduce61 (join64 (s.readX b) (s.readX a)))) := if_pos h

/-- `RED61` without Backend 61 (30_encoding R81). -/
theorem exec_red61_of_not (h : s.params.has61 = false) :
    exec (.red61 d a b) s = trap .illegalCommand (.red61 d a b) s := if_neg (Bool.eq_false_iff.mp h)

/-- `MULMOD61` with Backend 61 (44_mod61 R164). -/
theorem exec_mulmod61_of_has (h : s.params.has61 = true) :
    exec (.mulmod61 d a b) s = finish (s.writeX d (mulMod61 (s.readX a) (s.readX b))) := if_pos h

/-- `MULMOD61` without Backend 61 (30_encoding R81). -/
theorem exec_mulmod61_of_not (h : s.params.has61 = false) :
    exec (.mulmod61 d a b) s = trap .illegalCommand (.mulmod61 d a b) s := if_neg (Bool.eq_false_iff.mp h)

end Backend61

/-- Settles O45: two folds come below `2 * P61`, where the loop has stopped. -/
theorem reduce61IsTheResidue : Obligations.Reduce61IsTheResidue := by
  intro x
  have htwo := foldLoop61_two_lt x.isLt
  refine ⟨reduce61_toNat x, (reduce61_toNat x).trans_lt (mod_p61_lt _), htwo, fun n hn => ?_⟩
  obtain ⟨m, rfl⟩ := Nat.exists_eq_add_of_le hn
  rw [foldLoop61_add, foldLoop61_of_lt htwo]

/-- Settles O46: the product is exact, and `Reduce61` is its residue. -/
theorem mulMod61IsTheResidueOfTheProduct : Obligations.MulMod61IsTheResidueOfTheProduct :=
  fun a b => ⟨mulMod61_toNat a b, (mulMod61_toNat a b).trans_lt (mod_p61_lt _)⟩

/-- Settles O47: with the backend each command is one write of a residue, without it one fault. -/
theorem backend61CommandsWriteTheResidue : Obligations.Backend61CommandsWriteTheResidue := by
  intro s d a b _
  refine ⟨by rw [encodeWord, encodeFields], by rw [encodeWord, encodeFields], fun h => ⟨?red, ?mulmod⟩,
    fun h => ⟨?redFault, ?mulmodFault⟩⟩
  case red => rw [exec_red61_of_has d a b h, finish_writeX, reduce61_eq_ofNat, join64_toNat]
  case mulmod => rw [exec_mulmod61_of_has d a b h, finish_writeX, mulMod61, reduce61_eq_ofNat, zext128_mul_toNat]
  case redFault => rw [exec_red61_of_not d a b h, trap_eq_faulted, causeCode]
  case mulmodFault => rw [exec_mulmod61_of_not d a b h, trap_eq_faulted, causeCode]

end Sys2Proof.Machine

/-! Proofs about Backend 89: `Fmar89` is multiply-add modulo `2^89 - 1` with its bounds (45_mod89 R182 to R184, R186), and
`ReduceToScalar89` the low 64 bits of the residue (45_mod89 R185, R187). -/

namespace Sys2Proof.Machine

section Fmar89

variable (x : U64) (a b : Limbs)

/-- A word by its two halves (00_scope R11). -/
theorem toNat_eq_halves : x.toNat = (lo32 x).toNat + (hi32 x).toNat * 2 ^ 32 := by
  have hx := x.isLt
  rw [lo32_eq_ofNat, hi32_eq_ofNat, BitVec.toNat_ofNat, BitVec.toNat_ofNat]
  omega

/-- The product of a triple and a word by the six partial products of `Fmar89` (45_mod89 R182). -/
theorem val96_mul_toNat :
    a.val96 * x.toNat = a.l0.toNat * (lo32 x).toNat +
      (a.l0.toNat * (hi32 x).toNat + a.l1.toNat * (lo32 x).toNat) * 2 ^ 32 +
      (a.l1.toNat * (hi32 x).toNat + a.l2.toNat * (lo32 x).toNat) * 2 ^ 64 + a.l2.toNat * (hi32 x).toNat * 2 ^ 96 := by
  rw [Limbs.val96, toNat_eq_halves x]
  ring

/-- Carry propagation keeps the value of three sums at weights 1, `2^32` and `2^64` (45_mod89 R182). -/
theorem carry_value (u0 u1 u2 : Nat) :
    u0 % 2 ^ 32 + (u1 + u0 / 2 ^ 32) % 2 ^ 32 * 2 ^ 32 + (u2 + (u1 + u0 / 2 ^ 32) / 2 ^ 32) * 2 ^ 64 =
      u0 + u1 * 2 ^ 32 + u2 * 2 ^ 64 := by
  have h0 := Nat.mod_add_div u0 (2 ^ 32)
  have h1 := Nat.mod_add_div (u1 + u0 / 2 ^ 32) (2 ^ 32)
  generalize (u1 + u0 / 2 ^ 32) % 2 ^ 32 = r1 at *
  generalize (u1 + u0 / 2 ^ 32) / 2 ^ 32 = q1 at *
  generalize u0 % 2 ^ 32 = r0 at *
  generalize u0 / 2 ^ 32 = q0 at *
  omega

/-- The sums of `Fmar89` by its parts: the halves of `c00`, `d0`, `d1` and `d2` are put together again (45_mod89 R182). -/
theorem fmarParts_sums :
    (fmarParts x a b).s0 % 2 ^ 32 + (fmarParts x a b).s1 % 2 ^ 32 * 2 ^ 32 + (fmarParts x a b).s2 * 2 ^ 64 =
      b.val96 + a.l0.toNat * (lo32 x).toNat + (fmarParts x a b).d0 + (fmarParts x a b).d1 +
        (fmarParts x a b).d2 * 2 ^ 32 + (fmarParts x a b).d3 * 2 ^ 64 := by
  refine (carry_value _ _ _).trans ?_
  show b.l0.toNat + a.l0.toNat * (lo32 x).toNat % 2 ^ 32 + (fmarParts x a b).d0 % 2 ^ 32 +
      (fmarParts x a b).d1 % 2 ^ 32 +
      (b.l1.toNat + a.l0.toNat * (lo32 x).toNat / 2 ^ 32 + (fmarParts x a b).d0 / 2 ^ 32 +
        (fmarParts x a b).d1 / 2 ^ 32 + (fmarParts x a b).d2 % 2 ^ 32) * 2 ^ 32 +
      (b.l2.toNat + (fmarParts x a b).d2 / 2 ^ 32 + (fmarParts x a b).d3) * 2 ^ 64 = _
  have hc := Nat.mod_add_div (a.l0.toNat * (lo32 x).toNat) (2 ^ 32)
  have h0 := Nat.mod_add_div (fmarParts x a b).d0 (2 ^ 32)
  have h1 := Nat.mod_add_div (fmarParts x a b).d1 (2 ^ 32)
  have h2 := Nat.mod_add_div (fmarParts x a b).d2 (2 ^ 32)
  rw [Limbs.val96]
  linear_combination hc + h0 + h1 + 2 ^ 32 * h2

/-- The partial products by the parts of `Fmar89`, less a multiple of `P89`: what stands at weight `2^89` or above is
brought down to weight 1 (45_mod89 R182). -/
theorem fmarParts_products :
    ∃ k, a.l0.toNat * (lo32 x).toNat + (fmarParts x a b).d0 + (fmarParts x a b).d1 +
        (fmarParts x a b).d2 * 2 ^ 32 + (fmarParts x a b).d3 * 2 ^ 64 + p89 * k = a.val96 * x.toNat := by
  have h01 := Nat.mod_add_div (a.l0.toNat * (hi32 x).toNat) (2 ^ 57)
  have h10 := Nat.mod_add_div (a.l1.toNat * (lo32 x).toNat) (2 ^ 57)
  have h11 := Nat.mod_add_div (a.l1.toNat * (hi32 x).toNat) (2 ^ 25)
  have h20 := Nat.mod_add_div (a.l2.toNat * (lo32 x).toNat) (2 ^ 25)
  have h21 := Nat.mod_add_div (2 ^ 7 * (a.l2.toNat * (hi32 x).toNat)) (2 ^ 64)
  have hq : 2 ^ 7 * (a.l2.toNat * (hi32 x).toNat) / 2 ^ 64 = a.l2.toNat * (hi32 x).toNat / 2 ^ 57 :=
    Nat.mul_div_mul_left _ (2 ^ 57) (by decide : 0 < 2 ^ 7)
  have hp : p89 + 1 = 2 ^ 89 := by rfl
  have hd0 : (fmarParts x a b).d0 = a.l2.toNat * (lo32 x).toNat / 2 ^ 25 + a.l1.toNat * (hi32 x).toNat / 2 ^ 25 +
      a.l1.toNat * (lo32 x).toNat / 2 ^ 57 + a.l0.toNat * (hi32 x).toNat / 2 ^ 57 := rfl
  have hd1 : (fmarParts x a b).d1 = 2 ^ 7 * (a.l2.toNat * (hi32 x).toNat) % 2 ^ 64 := rfl
  have hd2 : (fmarParts x a b).d2 = a.l1.toNat * (lo32 x).toNat % 2 ^ 57 + a.l0.toNat * (hi32 x).toNat % 2 ^ 57 := rfl
  have hd3 : (fmarParts x a b).d3 = a.l2.toNat * (lo32 x).toNat % 2 ^ 25 + a.l1.toNat * (hi32 x).toNat % 2 ^ 25 +
      a.l2.toNat * (hi32 x).toNat / 2 ^ 57 := rfl
  refine ⟨(fmarParts x a b).d0 + 2 ^ 7 * (a.l2.toNat * (hi32 x).toNat), ?_⟩
  rw [val96_mul_toNat]
  rw [hq, ← hd1] at h21
  linear_combination ((fmarParts x a b).d0 + 2 ^ 7 * (a.l2.toNat * (hi32 x).toNat)) * hp + 2 ^ 64 * (h20 + h11 + hd3) +
    2 ^ 32 * (h10 + h01 + hd2) + h21 + 2 ^ 89 * hd0

/-- The sums of `Fmar89` are congruent to multiply-add modulo `P89` (45_mod89 R183). -/
theorem fmarParts_mod :
    ((fmarParts x a b).s0 % 2 ^ 32 + (fmarParts x a b).s1 % 2 ^ 32 * 2 ^ 32 + (fmarParts x a b).s2 * 2 ^ 64) % p89 =
      (a.val96 * x.toNat + b.val96) % p89 := by
  obtain ⟨k, hk⟩ := fmarParts_products x a b
  rw [fmarParts_sums, ← hk, ← Nat.add_mul_mod_self_left _ p89 k]
  congr 1
  ring

/-- The parts of a partial product that `Fmar89` takes: each is the part of the largest product at most (R184). -/
theorem limb_mul_div_le (u v : U32) :
    u.toNat * v.toNat / 2 ^ 25 ≤ 2 ^ 39 - 2 ^ 8 ∧ u.toNat * v.toNat / 2 ^ 57 ≤ 2 ^ 7 - 1 ∧
      u.toNat * v.toNat / 2 ^ 32 ≤ 2 ^ 32 - 2 := by
  have hle : u.toNat * v.toNat ≤ (2 ^ 32 - 1) * (2 ^ 32 - 1) :=
    Nat.mul_le_mul (Nat.le_pred_of_lt u.isLt) (Nat.le_pred_of_lt v.isLt)
  exact ⟨(Nat.div_le_div_right hle).trans (by decide), (Nat.div_le_div_right hle).trans (by decide),
    (Nat.div_le_div_right hle).trans (by decide)⟩

/-- The bound on `d0` (45_mod89 R184). -/
theorem fmarParts_d0_lt : (fmarParts x a b).d0 < 2 ^ 40 + 2 ^ 8 := by
  obtain ⟨h20, _⟩ := limb_mul_div_le a.l2 (lo32 x)
  obtain ⟨h11, _⟩ := limb_mul_div_le a.l1 (hi32 x)
  obtain ⟨_, h10, _⟩ := limb_mul_div_le a.l1 (lo32 x)
  obtain ⟨_, h01, _⟩ := limb_mul_div_le a.l0 (hi32 x)
  show a.l2.toNat * (lo32 x).toNat / 2 ^ 25 + a.l1.toNat * (hi32 x).toNat / 2 ^ 25 +
    a.l1.toNat * (lo32 x).toNat / 2 ^ 57 + a.l0.toNat * (hi32 x).toNat / 2 ^ 57 < _
  omega

/-- The bound on `d2` (45_mod89 R184). -/
theorem fmarParts_d2_lt : (fmarParts x a b).d2 < 2 ^ 58 :=
  (Nat.add_lt_add (Nat.mod_lt _ (by decide)) (Nat.mod_lt _ (by decide))).trans_eq (by decide : 2 ^ 57 + 2 ^ 57 = 2 ^ 58)

/-- The bound on `d3` (45_mod89 R184). -/
theorem fmarParts_d3_le : (fmarParts x a b).d3 ≤ 2 ^ 26 + 2 ^ 7 - 3 := by
  have h20 : a.l2.toNat * (lo32 x).toNat % 2 ^ 25 ≤ 2 ^ 25 - 1 := Nat.le_pred_of_lt (Nat.mod_lt _ (by decide))
  have h11 : a.l1.toNat * (hi32 x).toNat % 2 ^ 25 ≤ 2 ^ 25 - 1 := Nat.le_pred_of_lt (Nat.mod_lt _ (by decide))
  obtain ⟨_, h21, _⟩ := limb_mul_div_le a.l2 (hi32 x)
  exact (Nat.add_le_add (Nat.add_le_add h20 h11) h21).trans (by decide)

/-- A remainder by `2^32` is at most `2^32 - 1`. -/
theorem mod_two_pow_32_le (n : Nat) : n % 2 ^ 32 ≤ 2 ^ 32 - 1 := Nat.le_pred_of_lt (Nat.mod_lt _ (by decide))

/-- The bound on the sum of limb 0 (45_mod89 R184). -/
theorem fmarParts_s0_le : (fmarParts x a b).s0 ≤ 4 * (2 ^ 32 - 1) :=
  (Nat.add_le_add (Nat.add_le_add (Nat.add_le_add (Nat.le_pred_of_lt b.l0.isLt) (mod_two_pow_32_le _))
    (mod_two_pow_32_le _)) (mod_two_pow_32_le _)).trans (by decide)

/-- The bound on the carry out of limb 0 (45_mod89 R184). -/
theorem fmarParts_s0_carry_le : (fmarParts x a b).s0 / 2 ^ 32 ≤ 3 :=
  (Nat.div_le_div_right (fmarParts_s0_le x a b)).trans (by decide)

/-- The bound on the sum of limb 1 (45_mod89 R184). -/
theorem fmarParts_s1_lt : (fmarParts x a b).s1 < 5 * 2 ^ 32 := by
  obtain ⟨_, _, h00⟩ := limb_mul_div_le a.l0 (lo32 x)
  have hd0 : (fmarParts x a b).d0 / 2 ^ 32 ≤ 2 ^ 8 :=
    (Nat.div_le_div_right (fmarParts_d0_lt x a b).le).trans (by decide)
  have hd1 : (fmarParts x a b).d1 / 2 ^ 32 < 2 ^ 32 := Nat.div_lt_of_lt_mul (Nat.mod_lt _ (by decide))
  have hb1 := b.l1.isLt
  have hd2 := mod_two_pow_32_le (fmarParts x a b).d2
  have hs0 := fmarParts_s0_carry_le x a b
  show b.l1.toNat + a.l0.toNat * (lo32 x).toNat / 2 ^ 32 + (fmarParts x a b).d0 / 2 ^ 32 +
    (fmarParts x a b).d1 / 2 ^ 32 + (fmarParts x a b).d2 % 2 ^ 32 + (fmarParts x a b).s0 / 2 ^ 32 < _
  omega

/-- The bound on the carry out of limb 1 (45_mod89 R184). -/
theorem fmarParts_s1_carry_le : (fmarParts x a b).s1 / 2 ^ 32 ≤ 4 :=
  Nat.le_of_lt_succ (Nat.div_lt_of_lt_mul ((fmarParts_s1_lt x a b).trans_eq (by decide)))

/-- The bound on the sum of limb 2 (45_mod89 R184). -/
theorem fmarParts_s2_le : (fmarParts x a b).s2 ≤ b.l2.toNat + 2 ^ 27 + 128 := by
  have hd2 : (fmarParts x a b).d2 / 2 ^ 32 ≤ 2 ^ 26 - 1 :=
    (Nat.div_le_div_right (Nat.le_pred_of_lt (fmarParts_d2_lt x a b))).trans (by decide)
  have hd3 := fmarParts_d3_le x a b
  have hs1 := fmarParts_s1_carry_le x a b
  show b.l2.toNat + (fmarParts x a b).d2 / 2 ^ 32 + (fmarParts x a b).d3 + (fmarParts x a b).s1 / 2 ^ 32 ≤ _
  omega

variable {x a b} {r : Limbs}

/-- `Fmar89` raises `LimbOverflow` when the sum of limb 2 does not fit it (45_mod89 R182). -/
theorem fmar89_eq_none_iff : fmar89 x a b = none ↔ 2 ^ 32 ≤ (fmarParts x a b).s2 := by
  rw [fmar89]
  split
  case isTrue hle => exact iff_of_true rfl hle
  case isFalse hfit => exact iff_of_false (fun h => by cases h) hfit

/-- The result of `Fmar89`: its three sums, the first two cut to a limb (45_mod89 R182). -/
theorem eq_of_fmar89 (h : fmar89 x a b = some r) :
    r.l2.toNat = (fmarParts x a b).s2 ∧
      r.val96 =
        (fmarParts x a b).s0 % 2 ^ 32 + (fmarParts x a b).s1 % 2 ^ 32 * 2 ^ 32 + (fmarParts x a b).s2 * 2 ^ 64 := by
  have hfit : ¬ 2 ^ 32 ≤ (fmarParts x a b).s2 := fun hlt => by cases h.symm.trans (fmar89_eq_none_iff.mpr hlt)
  have hr : fmar89 x a b = some ⟨BitVec.ofNat 32 (fmarParts x a b).s0, BitVec.ofNat 32 (fmarParts x a b).s1,
    BitVec.ofNat 32 (fmarParts x a b).s2⟩ := if_neg hfit
  obtain rfl := Option.some.inj (h.symm.trans hr)
  have hl2 : (BitVec.ofNat 32 (fmarParts x a b).s2).toNat = (fmarParts x a b).s2 := by
    rw [BitVec.toNat_ofNat, Nat.mod_eq_of_lt (Nat.lt_of_not_le hfit)]
  exact ⟨hl2, by rw [Limbs.val96, hl2, BitVec.toNat_ofNat, BitVec.toNat_ofNat]⟩

/-- A result of `Fmar89` is congruent to multiply-add modulo `P89` (45_mod89 R183). -/
theorem fmar89_mod (h : fmar89 x a b = some r) : r.val96 % p89 = (a.val96 * x.toNat + b.val96) % p89 := by
  rw [(eq_of_fmar89 h).2, fmarParts_mod]

/-- Limb 2 of a result of `Fmar89` exceeds that of the addend by little (45_mod89 R183). -/
theorem fmar89_l2_le (h : fmar89 x a b = some r) : r.l2.toNat ≤ b.l2.toNat + 2 ^ 27 + 128 := by
  rw [(eq_of_fmar89 h).1]
  exact fmarParts_s2_le x a b

/-- `Fmar89` overflows only on an addend with a large limb 2 (45_mod89 R184). -/
theorem le_l2_of_fmar89_eq_none (h : fmar89 x a b = none) : 0xF7FFFF80 ≤ b.l2.toNat := by
  have hle := fmarParts_s2_le x a b
  have hlt := fmar89_eq_none_iff.mp h
  omega

/-- A multiply-add of zero is the addend, limb for limb (45_mod89 R186). -/
theorem fmar89_of_zero (h : x = 0 ∨ a = ⟨0, 0, 0⟩) : fmar89 x a b = some b := by
  have hlo : (lo32 0).toNat = 0 := by decide
  have hhi : (hi32 0).toNat = 0 := by decide
  have h0 : b.l0.toNat / 2 ^ 32 = 0 := Nat.div_eq_of_lt b.l0.isLt
  have h1 : b.l1.toNat / 2 ^ 32 = 0 := Nat.div_eq_of_lt b.l1.isLt
  have hparts : (fmarParts x a b).s0 = b.l0.toNat ∧ (fmarParts x a b).s1 = b.l1.toNat ∧
      (fmarParts x a b).s2 = b.l2.toNat := by
    rcases h with rfl | rfl
    · simp only [fmarParts, hlo, hhi, Nat.mul_zero, Nat.zero_div, Nat.zero_mod, Nat.add_zero, h0, h1, and_self]
    · simp only [fmarParts, BitVec.toNat_ofNat, BitVec.ofNat_eq_ofNat, Nat.mul_zero, Nat.zero_mul, Nat.zero_div,
        Nat.zero_mod, Nat.add_zero, h0, h1, and_self]
  obtain ⟨hs0, hs1, hs2⟩ := hparts
  have hfit : ¬ 2 ^ 32 ≤ (fmarParts x a b).s2 := by rw [hs2]; exact b.l2.isLt.not_ge
  rw [fmar89, if_neg hfit, hs0, hs1, hs2]
  simp

end Fmar89

/-- Settles O48: the congruence and the bound of a result; `(M32, M32, M25)`, which multiply-add of zero returns, is
`P89` itself. -/
theorem fmarIsCongruentToMultiplyAdd : Obligations.FmarIsCongruentToMultiplyAdd :=
  ⟨fun _ _ _ _ h => ⟨fmar89_mod h, fmar89_l2_le h⟩,
    0, ⟨0, 0, 0⟩, ⟨0xFFFFFFFF, 0xFFFFFFFF, 0x01FFFFFF⟩, _, fmar89_of_zero (.inl rfl), by decide⟩

/-- Settles O49: one bound for each intermediate; an addend with limb 2 below `2^25` cannot overflow, nor can what
`Fmar89` made of such an addend. -/
theorem fmarBoundsAndOverflow : Obligations.FmarBoundsAndOverflow := by
  intro x a b
  refine ⟨fmarParts_d0_lt x a b, fmarParts_d2_lt x a b, fmarParts_d3_le x a b, fmarParts_s0_le x a b,
    fmarParts_s0_carry_le x a b, fmarParts_s1_lt x a b, fmarParts_s1_carry_le x a b, fmarParts_s2_le x a b,
    le_l2_of_fmar89_eq_none, fun hcanonical => ?canonical, fun hlt => ⟨fun hnone => ?small, fun r hr => ?result⟩,
    fun y c d hd hb hnone => ?chain⟩
  case canonical =>
    rw [Limbs.Canonical89, Limbs.val96, p89] at hcanonical
    omega
  case small =>
    have := le_l2_of_fmar89_eq_none hnone
    omega
  case result =>
    have := fmar89_l2_le hr
    omega
  case chain =>
    have := le_l2_of_fmar89_eq_none hnone
    have := fmar89_l2_le hb
    omega

section Backend89

variable {s : State} (qd qa qb qs : QReg) (xs xd : XReg)

/-- `FMAR89` with Backend 89 that does not overflow (45_mod89 R186). -/
theorem exec_fmar89_of_some {r : Limbs} (h : s.params.has89 = true)
    (hr : fmar89 (s.readX xs) (s.readQ qa) (s.readQ qb) = some r) :
    exec (.fmar89 qd xs qa qb) s = finish (s.writeQ qd r) := by
  rw [exec, execFmar89, if_pos h, hr]

/-- `FMAR89` with Backend 89 that overflows (45_mod89 R186). -/
theorem exec_fmar89_of_none (h : s.params.has89 = true)
    (hr : fmar89 (s.readX xs) (s.readQ qa) (s.readQ qb) = none) :
    exec (.fmar89 qd xs qa qb) s = trap .limbOverflow (.fmar89 qd xs qa qb) s := by
  rw [exec, execFmar89, if_pos h, hr]

/-- `FMAR89` without Backend 89 (30_encoding R81). -/
theorem exec_fmar89_of_not (h : s.params.has89 = false) :
    exec (.fmar89 qd xs qa qb) s = trap .illegalCommand (.fmar89 qd xs qa qb) s := if_neg (Bool.eq_false_iff.mp h)

/-- `RED89` with Backend 89 (45_mod89 R187). -/
theorem exec_red89_of_has (h : s.params.has89 = true) :
    exec (.red89 xd qs) s = finish (s.writeX xd (reduceToScalar89 (s.readQ qs))) := if_pos h

/-- `RED89` without Backend 89 (30_encoding R81). -/
theorem exec_red89_of_not (h : s.params.has89 = false) :
    exec (.red89 xd qs) s = trap .illegalCommand (.red89 xd qs) s := if_neg (Bool.eq_false_iff.mp h)

end Backend89

/-- Settles O50: the command is one write of the result of `Fmar89` or one fault, as `Fmar89` itself. -/
theorem fmarCommandWritesOrOverflows : Obligations.FmarCommandWritesOrOverflows := by
  intro s qd qa qb xs _
  refine ⟨by rw [encodeWord, encodeFields], fun h => ⟨fun r hr => ?result, fun hnone => ?overflow, fun hlt => ?small⟩,
    fmar89_of_zero, by decide, fun h => ?absent⟩
  case result => rw [exec_fmar89_of_some qd qa qb xs h hr, finish_writeQ]
  case overflow => rw [exec_fmar89_of_none qd qa qb xs h hnone, trap_eq_faulted, causeCode]
  case small =>
    cases hr : fmar89 (s.readX xs) (s.readQ qa) (s.readQ qb) with
    | none => exact absurd (le_l2_of_fmar89_eq_none hr) (Nat.not_le_of_lt hlt)
    | some r => exact ⟨r, fmar89_mod hr, by rw [exec_fmar89_of_some qd qa qb xs h hr, finish_writeQ]⟩
  case absent => rw [exec_fmar89_of_not qd qa qb xs h, trap_eq_faulted, causeCode]

section ReduceToScalar89

/-- The value of a triple with limb 2 cut to 25 bits and its upper part brought down to weight 1 (45_mod89 R185). -/
def foldedVal89 (r : Limbs) : Nat :=
  r.l0.toNat + r.l2.toNat / 2 ^ 25 + r.l1.toNat * 2 ^ 32 + r.l2.toNat % 2 ^ 25 * 2 ^ 64

/-- Folding keeps the residue modulo `P89`. -/
theorem foldedVal89_mod (r : Limbs) : foldedVal89 r % p89 = r.val96 % p89 := by
  have hsplit := Nat.mod_add_div r.l2.toNat (2 ^ 25)
  have hp : p89 + 1 = 2 ^ 89 := by rfl
  have hval : foldedVal89 r + p89 * (r.l2.toNat / 2 ^ 25) = r.val96 := by
    rw [Limbs.val96, foldedVal89]
    linear_combination (r.l2.toNat / 2 ^ 25) * hp + 2 ^ 64 * hsplit
  rw [← hval, Nat.add_mul_mod_self_left]

/-- The boundary branch of `ReduceToScalar89` is the one where the folded value is not yet below `P89` (45_mod89 R185). -/
theorem boundary_iff_p89_le (r : Limbs) :
    (r.l2.toNat % 2 ^ 25 = m25 ∧ r.l1.toNat = m32 ∧ m32 ≤ r.l0.toNat + r.l2.toNat / 2 ^ 25) ↔ p89 ≤ foldedVal89 r := by
  have h0 := r.l0.isLt
  have h1 := r.l1.isLt
  have hq : r.l2.toNat / 2 ^ 25 < 2 ^ 7 := Nat.div_lt_of_lt_mul (r.l2.isLt.trans_eq (by decide))
  have ht : r.l2.toNat % 2 ^ 25 < 2 ^ 25 := Nat.mod_lt _ (by decide)
  rw [foldedVal89, m25, m32, p89]
  generalize r.l2.toNat / 2 ^ 25 = q at *
  generalize r.l2.toNat % 2 ^ 25 = t at *
  omega

/-- `ReduceToScalar89` is the low 64 bits of the residue modulo `P89` of every triple (45_mod89 R185). -/
theorem reduceToScalar89_toNat (r : Limbs) : (reduceToScalar89 r).toNat = r.val96 % p89 % 2 ^ 64 := by
  have hq : r.l2.toNat / 2 ^ 25 < 2 ^ 7 := Nat.div_lt_of_lt_mul (r.l2.isLt.trans_eq (by decide))
  rw [← foldedVal89_mod, reduceToScalar89]
  split
  case isTrue hboundary =>
    have hle := (boundary_iff_p89_le r).mp hboundary
    obtain ⟨ht, h1, h0⟩ := hboundary
    have hl0 := r.l0.isLt
    have hsub : foldedVal89 r - p89 = r.l0.toNat + r.l2.toNat / 2 ^ 25 - m32 := by
      rw [foldedVal89, ht, h1, m25, m32, p89]
      omega
    rw [BitVec.toNat_ofNat, Nat.mod_eq_sub_mod hle, hsub, Nat.mod_eq_of_lt (b := p89)]
    rw [p89]
    omega
  case isFalse hboundary =>
    have hlt := Nat.lt_of_not_le (mt (boundary_iff_p89_le r).mpr hboundary)
    rw [BitVec.toNat_ofNat, Nat.mod_eq_of_lt hlt, foldedVal89, Nat.add_mul_mod_self_right, Nat.mul_comm]

/-- `ReduceToScalar89` as the word of the residue. -/
theorem reduceToScalar89_eq_ofNat (r : Limbs) : reduceToScalar89 r = BitVec.ofNat 64 (r.val96 % p89) :=
  BitVec.eq_of_toNat_eq (by rw [reduceToScalar89_toNat, BitVec.toNat_ofNat])

end ReduceToScalar89

/-- Settles O51: one fold and the boundary branch give the residue, which the command writes. -/
theorem red89WritesTheLowBitsOfTheResidue : Obligations.Red89WritesTheLowBitsOfTheResidue := by
  refine ⟨reduceToScalar89_toNat, fun s d qs _ => ⟨by rw [encodeWord, encodeFields], fun h => ?write, fun h => ?absent⟩⟩
  case write => rw [exec_red89_of_has qs d h, finish_writeX, reduceToScalar89_eq_ofNat]
  case absent => rw [exec_red89_of_not qs d h, trap_eq_faulted, causeCode]

end Sys2Proof.Machine

/-! Proofs about the polynomial evaluator: both evaluations are the polynomial of the coefficient set (46_poly R203, R204,
R206), functions of the instance (R205), and complete on the coefficients `CGEN` draws (R207). -/

namespace Sys2Proof.Machine

section Poly61

/-- The polynomial with the coefficients `f 0 .. f (n - 1)`, as a sum (46_poly R201). -/
theorem ofDigits_map_range (x n : Nat) (f : Nat → Nat) :
    Nat.ofDigits x ((List.range n).map f) = ∑ i ∈ Finset.range n, f i * x ^ i := by
  induction n with
  | zero => rfl
  | succ n ih =>
    rw [List.range_succ, List.map_append, Nat.ofDigits_append, ih, List.length_map, List.length_range,
      Finset.sum_range_succ, List.map_singleton, Nat.ofDigits_singleton, Nat.mul_comm]

/-- The sum of two words is exact in 128 bits (44_mod61 R161). -/
theorem zext128_add_toNat (a b : U64) : (zext128 a + zext128 b).toNat = a.toNat + b.toNat := by
  have ha := a.isLt
  have hb := b.isLt
  rw [BitVec.toNat_add, zext128, zext128, BitVec.toNat_setWidth_of_le (by decide),
    BitVec.toNat_setWidth_of_le (by decide), Nat.mod_eq_of_lt (by omega)]

theorem zext128_toNat (a : U64) : (zext128 a).toNat = a.toNat := BitVec.toNat_setWidth_of_le (by decide)

/-- The loop of `Poly61`: the running sum, and the running power times the polynomial of the entries left
(46_poly R203). -/
theorem poly61Loop_toNat (xm : U64) (coefs : List Limbs) {acc : U64} (hacc : acc.toNat < p61) (xp : U64) :
    (poly61Loop xm coefs acc xp).toNat =
      (acc.toNat + xp.toNat * Nat.ofDigits xm.toNat (coefs.map fun c => (val64 c).toNat)) % p61 := by
  induction coefs generalizing acc xp with
  | nil => rw [poly61Loop, List.map_nil, Nat.ofDigits_nil, Nat.mul_zero, Nat.add_zero, Nat.mod_eq_of_lt hacc]
  | cons c rest ih =>
    have hstep : (reduce61 (zext128 acc + zext128 (mulMod61 (val64 c) xp))).toNat =
        (acc.toNat + (val64 c).toNat * xp.toNat) % p61 := by
      rw [reduce61_toNat, zext128_add_toNat, mulMod61_toNat, Nat.add_mod_mod]
    rw [poly61Loop, ih (hstep.trans_lt (mod_p61_lt _)), hstep, mulMod61_toNat, List.map_cons, Nat.ofDigits_cons]
    generalize Nat.ofDigits xm.toNat (rest.map fun c => (val64 c).toNat) = tail
    calc ((acc.toNat + (val64 c).toNat * xp.toNat) % p61 + xp.toNat * xm.toNat % p61 * tail) % p61
      _ = (acc.toNat + (val64 c).toNat * xp.toNat + xp.toNat * xm.toNat * tail) % p61 :=
        (Nat.mod_modEq _ _).add ((Nat.mod_modEq _ _).mul_right _)
      _ = (acc.toNat + xp.toNat * ((val64 c).toNat + xm.toNat * tail)) % p61 := by ring_nf

/-- `Poly61` is the polynomial of the coefficients at the key modulo `P61` (46_poly R203). -/
theorem poly61_toNat (coefs : List Limbs) (key : U64) :
    (poly61 coefs key).toNat = Nat.ofDigits key.toNat (coefs.map fun c => (val64 c).toNat) % p61 := by
  cases coefs with
  | nil => rfl
  | cons c rest =>
    have hacc : (reduce61 (zext128 (val64 c))).toNat = (val64 c).toNat % p61 := by rw [reduce61_toNat, zext128_toNat]
    have hkey : (reduce61 (zext128 key)).toNat = key.toNat % p61 := by rw [reduce61_toNat, zext128_toNat]
    rw [poly61, poly61Loop_toNat _ _ (hacc.trans_lt (mod_p61_lt _)), hacc, hkey, List.map_cons, Nat.ofDigits_cons]
    exact (Nat.mod_modEq _ _).add ((Nat.mod_modEq _ _).mul (Nat.ofDigits_modEq' _ _ _ (Nat.mod_modEq _ _) _))

variable {s : State}

/-- The coefficient set read by numbers is a list over the entries below `K`. -/
theorem map_coefSet (f : Limbs → Nat) : s.coefSet.map f = (List.range s.cfgK.toNat).map fun i => f (s.readC i) := by
  rw [State.coefSet, List.map_map]
  rfl

/-- `Poly61` of the coefficient set as a sum over its indices (46_poly R203). -/
theorem poly61_coefSet (key : U64) :
    poly61 s.coefSet key = BitVec.ofNat 64
      ((∑ i ∈ Finset.range s.cfgK.toNat, ((s.readC i).l0.toNat + (s.readC i).l1.toNat * 2 ^ 32) * key.toNat ^ i) %
        p61) := by
  have hsum : Nat.ofDigits key.toNat (s.coefSet.map fun c => (val64 c).toNat) =
      ∑ i ∈ Finset.range s.cfgK.toNat, ((s.readC i).l0.toNat + (s.readC i).l1.toNat * 2 ^ 32) * key.toNat ^ i := by
    rw [map_coefSet, ofDigits_map_range]
    exact Finset.sum_congr rfl fun i _ => by rw [val64_toNat]
  rw [← hsum, ← poly61_toNat, BitVec.ofNat_toNat, BitVec.setWidth_eq]

/-- `PEVAL` with an instance whose evaluation gives a value (46_poly R206). -/
theorem execPeval_of_some (d k : XReg) {h : U64} (hk : s.cfgK ≠ 0) (hv : polyValue s (s.readX k) = some h) :
    execPeval d k s = finish (s.writeX d h) := by
  rw [execPeval, if_neg hk, hv]

/-- `PEVAL` with an instance whose evaluation overflows (46_poly R206). -/
theorem execPeval_of_none (d k : XReg) (hk : s.cfgK ≠ 0) (hv : polyValue s (s.readX k) = none) :
    execPeval d k s = trap .limbOverflow (.peval d k) s := by
  rw [execPeval, if_neg hk, hv]

/-- Under Backend 61 an evaluation always gives a value (46_poly R206). -/
theorem polyValue_b61 (hbk : s.cfgBk = .b61) (key : U64) : polyValue s key = some (poly61 s.coefSet key) := by
  rw [polyValue, hbk]

/-- Under Backend 89 an evaluation is that of `Poly89` (46_poly R206). -/
theorem polyValue_b89 (hbk : s.cfgBk = .b89) (key : U64) : polyValue s key = poly89 s.coefSet key := by
  rw [polyValue, hbk]

end Poly61

/-- Settles O52: the loop of `Poly61` is the polynomial over the entries below `K`, which is a sum over their indices. -/
theorem peval61IsThePolynomial : Obligations.Peval61IsThePolynomial := by
  intro s d k _ hk hbk
  rw [exec_peval, execPeval_of_some d k hk (polyValue_b61 hbk _), finish_writeX, poly61_coefSet]

section Poly89

variable {key : U64}

/-- One Horner step is a multiply-add modulo `P89` (45_mod89 R183). -/
theorem fmar89_modEq {x : U64} {a b r : Limbs} (h : fmar89 x a b = some r) :
    r.val96 ≡ a.val96 * x.toNat + b.val96 [MOD p89] := fmar89_mod h

/-- The Horner steps of `Poly89`, when none overflows: the polynomial of the coefficients taken, the first as the leading
one (46_poly R204). -/
theorem horner89_modEq {r r' : Limbs} {rest : List Limbs} (h : horner89 key r rest = some r') :
    r'.val96 ≡ Nat.ofDigits key.toNat ((rest.reverse ++ [r]).map Limbs.val96) [MOD p89] := by
  induction rest generalizing r with
  | nil =>
    obtain rfl := Option.some.inj h
    rw [List.reverse_nil, List.nil_append, List.map_singleton, Nat.ofDigits_singleton]
  | cons c rest ih =>
    rw [horner89] at h
    split at h
    case h_2 => cases h
    case h_1 r1 hr1 =>
      have hr1mod : Nat.ofDigits key.toNat [r1.val96] ≡ Nat.ofDigits key.toNat [c.val96, r.val96] [MOD p89] := by
        rw [Nat.ofDigits_singleton, Nat.ofDigits_cons, Nat.ofDigits_singleton, Nat.add_comm, Nat.mul_comm]
        exact fmar89_modEq hr1
      have hrest := ih h
      rw [List.map_append, Nat.ofDigits_append] at hrest
      rw [List.reverse_cons, List.append_assoc, List.map_append, Nat.ofDigits_append]
      exact hrest.trans ((hr1mod.mul_left _).add_left _)

/-- The Horner steps of `Poly89` overflow only on a coefficient with a large limb 2 (46_poly R204). -/
theorem exists_l2_of_horner89_none {r : Limbs} {rest : List Limbs} (h : horner89 key r rest = none) :
    ∃ c ∈ rest, 0xF7FFFF80 ≤ c.l2.toNat := by
  induction rest generalizing r with
  | nil => cases h
  | cons c rest ih =>
    rw [horner89] at h
    split at h
    case h_2 hnone => exact ⟨c, List.mem_cons_self .., le_l2_of_fmar89_eq_none hnone⟩
    case h_1 =>
      obtain ⟨d, hd, hl2⟩ := ih h
      exact ⟨d, List.mem_cons_of_mem _ hd, hl2⟩

/-- `Poly89` of a list by its leading coefficient: the Horner steps over the others, from the highest down
(46_poly R204). -/
theorem poly89_concat (coefs : List Limbs) (top : Limbs) :
    poly89 (coefs ++ [top]) key = (horner89 key top coefs.reverse).map reduceToScalar89 := by
  rw [poly89, List.reverse_append]
  rfl

variable {s : State}

/-- The coefficient set by its leading coefficient, entry `C[K-1]`, and the others. -/
theorem coefSet_eq_concat {n : Nat} (hn : s.cfgK.toNat = n + 1) :
    s.coefSet = (List.range n).map s.readC ++ [s.readC n] := by
  rw [State.coefSet, hn, List.range_succ, List.map_append, List.map_singleton]

/-- `Poly89` of the coefficient set, when it gives a value, is the polynomial at the key modulo `P89` cut to 64 bits
(46_poly R204). -/
theorem poly89_of_some (hk : s.cfgK ≠ 0) {h : U64} (hv : poly89 s.coefSet key = some h) :
    h = BitVec.ofNat 64 ((∑ i ∈ Finset.range s.cfgK.toNat, (s.readC i).val96 * key.toNat ^ i) % p89) := by
  obtain ⟨n, hn⟩ := Nat.exists_eq_succ_of_ne_zero fun h0 => hk (BitVec.eq_of_toNat_eq h0)
  rw [coefSet_eq_concat hn, poly89_concat, Option.map_eq_some_iff] at hv
  obtain ⟨r, hr, rfl⟩ := hv
  have hmod : r.val96 % p89 = _ % p89 := horner89_modEq hr
  rw [reduceToScalar89_eq_ofNat, hmod, List.reverse_reverse, ← coefSet_eq_concat hn, map_coefSet, ofDigits_map_range]

/-- `Poly89` of the coefficient set overflows only on an entry below the leading one with a large limb 2 (R204). -/
theorem exists_l2_of_poly89_none (hk : s.cfgK ≠ 0) (hv : poly89 s.coefSet key = none) :
    ∃ i, i + 1 < s.cfgK.toNat ∧ 0xF7FFFF80 ≤ (s.readC i).l2.toNat := by
  obtain ⟨n, hn⟩ := Nat.exists_eq_succ_of_ne_zero fun h0 => hk (BitVec.eq_of_toNat_eq h0)
  rw [coefSet_eq_concat hn, poly89_concat, Option.map_eq_none_iff] at hv
  obtain ⟨c, hc, hl2⟩ := exists_l2_of_horner89_none hv
  obtain ⟨i, hi, rfl⟩ := List.mem_map.mp (List.mem_reverse.mp hc)
  rw [List.mem_range] at hi
  exact ⟨i, by omega, hl2⟩

end Poly89

/-- Settles O53: the evaluation gives a value, which is the polynomial's, or it overflows. -/
theorem peval89IsThePolynomialOrOverflows : Obligations.Peval89IsThePolynomialOrOverflows := by
  intro s d k _ hk hbk
  cases hv : poly89 s.coefSet (s.readX k) with
  | some h =>
    refine .inl ?_
    rw [exec_peval, execPeval_of_some d k hk ((polyValue_b89 hbk _).trans hv), finish_writeX, poly89_of_some hk hv]
  | none =>
    refine .inr ⟨exists_l2_of_poly89_none hk hv, ?_⟩
    rw [exec_peval, execPeval_of_none d k hk ((polyValue_b89 hbk _).trans hv), trap_eq_faulted, causeCode]

end Sys2Proof.Machine

/-! Proofs about a constructed instance: evaluation completes on drawn coefficients (46_poly R207), is a function of the
instance and the key (46_poly R205), and so is the whole construction (70_reset_and_hazards R287). -/

namespace Sys2Proof.Machine

section Completion

variable {s : State}

/-- An evaluation gives a value when no coefficient of the set has a large limb 2 (46_poly R204). -/
theorem exists_polyValue (hk : s.cfgK ≠ 0)
    (hl2 : s.cfgBk = .b89 → ∀ i < s.cfgK.toNat, (s.readC i).l2.toNat < 0xF7FFFF80) (key : U64) :
    ∃ h, polyValue s key = some h := by
  cases hbk : s.cfgBk with
  | b61 => exact ⟨_, polyValue_b61 hbk key⟩
  | b89 =>
    rw [polyValue_b89 hbk]
    cases hv : poly89 s.coefSet key with
    | some h => exact ⟨h, rfl⟩
    | none =>
      obtain ⟨i, hi, hlarge⟩ := exists_l2_of_poly89_none hk hv
      exact absurd hlarge (Nat.not_le_of_lt (hl2 hbk i (by omega)))

/-- `PEVAL` completes when its evaluation gives a value (46_poly R206). -/
theorem exec_peval_of_some {d k : XReg} {h : U64} (hk : s.cfgK ≠ 0) (hv : polyValue s (s.readX k) = some h) :
    exec (.peval d k) s = .next ((s.writeX d h).respond statusOk 0) := by
  rw [exec_peval, execPeval_of_some d k hk hv, finish_eq]

/-- A word masked to 25 bits is below `2^25` (46_poly R207). -/
theorem and_mask25_lt (v : U32) : (v &&& 0x01FFFFFF).toNat < 2 ^ 25 := by
  rw [BitVec.toNat_and]
  exact Nat.lt_of_le_of_lt Nat.and_le_right (by decide)

/-- A triple with limb 2 below `2^25` stands for at most `P89` (20_memory R54). -/
theorem val96_le_p89 {t : Limbs} (h : t.l2.toNat < 2 ^ 25) : t.val96 ≤ p89 := by
  have h0 := t.l0.isLt
  have h1 := t.l1.isLt
  rw [Limbs.val96, p89]
  omega

end Completion

/-- Settles O56: the coefficients `CGEN` draws are residues or masked, so that no evaluation of them overflows. -/
theorem generatedCoefficientsNeverOverflow : Obligations.GeneratedCoefficientsNeverOverflow := by
  intro s d k hs hk hwf
  obtain ⟨t, hexec, hframe, _, h61, h89⟩ := cgenDrawsTheCoefficientSet s hs hk hwf
  have htk : t.cfgK = s.cfgK := by rw [hframe]; rfl
  have htbk : t.cfgBk = s.cfgBk := by rw [hframe]; rfl
  have htrun : t.Running := by rw [hframe]; exact hs
  have hmask : s.cfgBk = .b89 → ∀ i < s.cfgK.toNat, (t.readC i).l2.toNat < 2 ^ 25 := fun hbk i hi => by
    rw [(h89 hbk).2 i hi]
    exact and_mask25_lt _
  obtain ⟨h, hv⟩ := exists_polyValue (s := t) (htk ▸ hk)
    (fun hbk i hi => (hmask (htbk ▸ hbk) i (htk ▸ hi)).trans (by decide)) (t.readX k)
  refine ⟨t, _, hexec, exec_peval_of_some (htk ▸ hk) hv, htrun, fun i hi => ⟨fun hbk => ?_, fun hbk => ?_⟩⟩
  · obtain ⟨_, hval⟩ := (h61 hbk).2 i hi
    exact hval.trans_lt (mod_p61_lt _)
  · exact ⟨hmask hbk i hi, val96_le_p89 (hmask hbk i hi)⟩

/-- An evaluation is a function of `CFG`, the entries below `K` and the key (46_poly R205). -/
theorem polyValue_congr {s t : State} (hk : s.cfgK = t.cfgK) (hbk : s.cfgBk = t.cfgBk)
    (hcoef : ∀ i < s.cfgK.toNat, s.readC i = t.readC i) (key : U64) : polyValue s key = polyValue t key := by
  rw [polyValue, polyValue, hbk, State.coefSet_congr hk hcoef]

/-- Settles O59: the check of `CFG.K` and the evaluation are the same for both states, and their results decide all that
is compared. -/
theorem pevalIsAFunctionOfTheInstance : Obligations.PevalIsAFunctionOfTheInstance := by
  intro s1 s2 d k hs1 hs2 hk hbk hcoef hkey
  have hvalue : polyValue s2 (s2.readX k) = polyValue s1 (s1.readX k) := by
    rw [polyValue_congr hk hbk hcoef, hkey]
  by_cases hzero : s1.cfgK = 0
  · exact ⟨_, _, execPeval_of_no_instance hzero d k, execPeval_of_no_instance (hk ▸ hzero) d k, rfl, rfl,
      fun hrun => by cases hrun⟩
  · cases hv : polyValue s1 (s1.readX k) with
    | none =>
      exact ⟨_, _, execPeval_of_none d k hzero hv, execPeval_of_none d k (hk ▸ hzero) (hvalue.trans hv), rfl, rfl,
        fun hrun => by cases hrun⟩
    | some h =>
      refine ⟨_, _, exec_peval_of_some hzero hv, exec_peval_of_some (hk ▸ hzero) (hvalue.trans hv), rfl,
        hs1.trans hs2.symm, fun _ => ?_⟩
      rw [readX_respond, readX_respond, State.readX_writeX_same, State.readX_writeX_same]
      exact ⟨rfl, rfl⟩

section Construction

variable {s t : State}

/-- The state after `CWR` of a legal word `w` to `CFG` and `PSEED` with the given seed and selector. -/
def State.constructed (s : State) (w seed selector : U64) : State :=
  ((((s.writeCfg w).respond statusOk 0).writePrngState seed).writeInc selector).respond statusOk 0

section ConstructedFields

variable (s : State) (w seed selector : U64)

@[simp] theorem State.constructed_cfgK : (s.constructed w seed selector).cfgK = cfgKOf w := by simp [State.constructed]
@[simp] theorem State.constructed_cfgBk : (s.constructed w seed selector).cfgBk = cfgBkOf w := by
  simp [State.constructed]
@[simp] theorem State.constructed_coef : (s.constructed w seed selector).coef = Memory.cleared := by
  simp [State.constructed, Memory.cleared]
@[simp] theorem State.constructed_prngState : (s.constructed w seed selector).prngState = seed := by
  simp [State.constructed]
@[simp] theorem State.constructed_prngInc : (s.constructed w seed selector).prngInc = selector ||| 1 := by
  simp [State.constructed]
@[simp] theorem State.constructed_fault : (s.constructed w seed selector).fault = s.fault := by simp [State.constructed]
@[simp] theorem State.readX_constructed (r : XReg) : (s.constructed w seed selector).readX r = s.readX r :=
  State.readX_congr _ _ (by simp [State.constructed]) r

end ConstructedFields

/-- A command that leaves the block running was executed by a running block: no command clears the latch. -/
theorem running_of_exec {i : Instr} (hexec : exec i s = .next t) (ht : t.Running) : s.Running := by
  rcases exec_answers i s with ⟨u, hu, hdone⟩ | ⟨c, _, htrap⟩
  · obtain rfl := finishWith_next.mp (hdone.symm.trans hexec)
    exact hu.fault.symm.trans ht
  · obtain rfl := trap_next.mp (htrap.symm.trans hexec)
    cases ht

/-- `CWR CFG; PSEED` and what follows, when the word is legal (47_move_system R233, 41_prng R103). -/
theorem execAll_construct {rc : XReg} (ra rb : XReg) (hlegal : cfgLegal s.params (s.readX rc) = true)
    (rest : List Instr) :
    execAll (.cwr 1 rc :: .pseed ra rb :: rest) s =
      execAll rest (s.constructed (s.readX rc) (s.readX ra) (s.readX rb)) := by
  have hcwr : exec (.cwr 1 rc) s = .next ((s.writeCfg (s.readX rc)).respond statusOk 0) := by
    rw [exec_cwr, execCwr_cfg_of_legal rc hlegal, finish_eq]
  rw [execAll_cons hcwr]
  exact execAll_cons rfl rest

/-- `CGEN` from two states with the same `CFG` and generator fills the same entries (46_poly R207). -/
theorem readC_genCoefs_congr {n : Nat} (hs : s.coef.wf n) (ht : t.coef.wf n) (hbk : s.cfgBk = t.cfgBk)
    (hstate : s.prngState = t.prngState) (hinc : s.prngInc = t.prngInc) {i : Nat} (hi : i < n) :
    (genCoefs n 0 s).readC i = (genCoefs n 0 t).readC i := by
  have hsread := genCoefs_readC (i := 0) hs (by omega) hi
  have htread := genCoefs_readC (i := 0) ht (by omega) hi
  have hdraw : ∀ m, s.drawNumber m = t.drawNumber m := fun m => by
    rw [State.drawNumber, State.drawNumber, hstate, hinc]
  have hcoef : s.coefNumber i = t.coefNumber i := by
    rw [State.coefNumber, State.coefNumber, hbk]
    simp only [hdraw]
  rw [Nat.zero_add] at hsread htread
  rw [hsread, htread, hcoef]

/-- `CGEN` from two states with a constructed instance answers two states with the same instance (46_poly R205, R207). -/
theorem exec_cgen_congr {t1 t2 : State} (hk : s.cfgK ≠ 0) (hcfg : s.cfgK = t.cfgK) (hs : s.coef = Memory.cleared)
    (ht : t.coef = Memory.cleared) (hbk : s.cfgBk = t.cfgBk) (hstate : s.prngState = t.prngState)
    (hinc : s.prngInc = t.prngInc) (h1 : exec .cgen s = .next t1) (h2 : exec .cgen t = .next t2) :
    t1.cfgK = t2.cfgK ∧ t1.cfgBk = t2.cfgBk ∧ (∀ i < t1.cfgK.toNat, t1.readC i = t2.readC i) := by
  have hcgen : ∀ xs, Instr.cgen ≠ .cwr 1 xs := fun _ h => by cases h
  obtain ⟨hk1, hbk1⟩ := (exec_frameOf h1).cfg hcgen
  obtain ⟨hk2, hbk2⟩ := (exec_frameOf h2).cfg hcgen
  refine ⟨hk1.trans (hcfg.trans hk2.symm), hbk1.trans (hbk.trans hbk2.symm), fun i hi => ?_⟩
  rw [hk1] at hi
  rw [exec_cgen_of_ne hk, finish_next] at h1
  rw [exec_cgen_of_ne (hcfg ▸ hk), ← hcfg, finish_next] at h2
  rw [h1, h2]
  exact readC_genCoefs_congr (hs ▸ Memory.cleared_wf _) (ht ▸ Memory.cleared_wf _) hbk hstate hinc hi

end Construction

/-- The rest of the construction, `CGEN; PEVAL`, completes: the entries are drawn (46_poly R207). -/
theorem exec_cgen_peval_constructed (s : State) (w seed selector : U64) (d rk : XReg) (hs : s.Running)
    (hk : cfgKOf w ≠ 0) :
    ∃ t u, exec .cgen (s.constructed w seed selector) = .next t ∧ exec (.peval d rk) t = .next u ∧ u.Running := by
  have hwf : (s.constructed w seed selector).coef.wf (s.constructed w seed selector).params.kmax := by
    rw [State.constructed_coef]
    exact Memory.cleared_wf _
  obtain ⟨t, u, hcgen, hpeval, hrun, _⟩ := generatedCoefficientsNeverOverflow (s.constructed w seed selector) d rk
    ((s.constructed_fault w seed selector).trans hs) (by rwa [State.constructed_cfgK]) hwf
  exact ⟨t, u, hcgen, hpeval, hrun⟩

/-- Settles O60: the construction leaves the same `CFG` and generator in both states and an empty memory, so that `CGEN`
leaves the same instance, whose evaluation completes and is a function of it and the key. -/
theorem constructionIsDeterministic : Obligations.ConstructionIsDeterministic := by
  intro s1 s2 rc ra rb rk d hs1 hs2 hparams _ hrc hra hrb hrk hlegal hk
  have hlegal2 : cfgLegal s2.params (s2.readX rc) = true := by rw [← hparams, ← hrc, hlegal]
  have hk1 : cfgKOf (s1.readX rc) ≠ 0 := fun h0 => hk (by rw [← cfgKOf_toNat, h0]; rfl)
  obtain ⟨t1, u1, hcgen1, hpeval1, hrun1⟩ := exec_cgen_peval_constructed s1 (s1.readX rc) (s1.readX ra) (s1.readX rb)
    d rk hs1 hk1
  obtain ⟨t2, u2, hcgen2, hpeval2, hrun2⟩ := exec_cgen_peval_constructed s2 (s2.readX rc) (s2.readX ra) (s2.readX rb)
    d rk hs2 (hrc ▸ hk1)
  obtain ⟨hcfg, hbk, hcoef⟩ := exec_cgen_congr (by simpa using hk1) (by simp [hrc]) (by simp) (by simp) (by simp [hrc])
    (by simp [hra]) (by simp [hrb]) hcgen1 hcgen2
  have hkey : t1.readX rk = t2.readX rk := by
    rw [(exec_frameOf hcgen1).readX rk nofun, (exec_frameOf hcgen2).readX rk nofun, State.readX_constructed,
      State.readX_constructed, hrk]
  obtain ⟨v1, v2, hv1, hv2, _, _, hsame⟩ := pevalIsAFunctionOfTheInstance t1 t2 d rk
    (running_of_exec hpeval1 hrun1) (running_of_exec hpeval2 hrun2) hcfg hbk hcoef hkey
  obtain rfl := Host.Outcome.next.inj (hpeval1.symm.trans hv1)
  obtain rfl := Host.Outcome.next.inj (hpeval2.symm.trans hv2)
  refine ⟨u1, u2, ?_, ?_, hrun1, hrun2, (hsame hrun1).1⟩
  · rw [execAll_construct ra rb hlegal, execAll_cons hcgen1, execAll_cons hpeval1, execAll]
  · rw [execAll_construct ra rb hlegal2, execAll_cons hcgen2, execAll_cons hpeval2, execAll]

end Sys2Proof.Machine

/-! Proofs about the faults of each command: a command fails a static check exactly when it is not well-formed on the
instance (30_encoding R75, R78, R81), and every fault listed for a command occurs (60_exceptions R252). -/

namespace Sys2Proof

section WellFormedCommands

variable (p : Params) (xd xs xa xb : XReg) (qd qs qa qb : QReg) (vd vs : VReg) (imm : Imm)

@[simp] theorem Instr.wellFormed_crd : (Instr.crd xd imm).wellFormed p = decide (imm.toNat ≤ 3) := rfl
@[simp] theorem Instr.wellFormed_cwr :
    (Instr.cwr imm xs).wellFormed p = (decide (1 ≤ imm.toNat) && decide (imm.toNat ≤ 3)) := rfl
@[simp] theorem Instr.wellFormed_vset : (Instr.vset vd xs imm).wellFormed p = decide (imm.toNat < p.lanes) := rfl
@[simp] theorem Instr.wellFormed_vget : (Instr.vget xd vs imm).wellFormed p = decide (imm.toNat < p.lanes) := rfl
@[simp] theorem Instr.wellFormed_red61 : (Instr.red61 xd xa xb).wellFormed p = p.has61 := Bool.and_true _
@[simp] theorem Instr.wellFormed_mulmod61 : (Instr.mulmod61 xd xa xb).wellFormed p = p.has61 := Bool.and_true _
@[simp] theorem Instr.wellFormed_fmar89 : (Instr.fmar89 qd xs qa qb).wellFormed p = p.has89 := Bool.and_true _
@[simp] theorem Instr.wellFormed_red89 : (Instr.red89 xd qs).wellFormed p = p.has89 := Bool.and_true _
@[simp] theorem Instr.wellFormed_cset : (Instr.cset imm qs).wellFormed p = decide (imm.toNat < p.kmax) := rfl
@[simp] theorem Instr.wellFormed_cget : (Instr.cget qd imm).wellFormed p = decide (imm.toNat < p.kmax) := rfl

end WellFormedCommands

end Sys2Proof

namespace Sys2Proof.Machine

section StaticChecks

/-- The causes of the checks that the parameters alone decide (30_encoding R78 steps 3 and 5). -/
def staticCauses : List Cause := [.illegalCommand, .indexRange, .csrAccess]

variable {i : Instr} {s t : State} {c : Cause}

/-- A command that completes in a running state does not fault. -/
theorem finish_ne_trap (ht : t.Running) : finish t ≠ trap c i s := by
  intro h
  have hfault := congrArg State.fault (Host.Outcome.next.inj h)
  exact Bool.false_ne_true (ht.symm.trans hfault)

/-- A fault tells its cause. -/
theorem trap_inj {d : Cause} (h : trap c i s = trap d i s) : c = d :=
  causeCode_inj (congrArg State.fcause (Host.Outcome.next.inj h))

/-- A running block takes no fault but one listed for the command (60_exceptions R252). -/
theorem mem_mayRaise_of_trap (hs : s.Running) (h : exec i s = trap c i s) : c ∈ i.mayRaise := by
  rcases exec_answers i s with ⟨t, ht, hdone⟩ | ⟨d, hd, htrap⟩
  · have hfault := congrArg State.fault (Host.Outcome.next.inj (hdone.symm.trans h))
    exact absurd ((ht.fault.trans hs).symm.trans hfault) Bool.false_ne_true
  · rwa [trap_inj (h.symm.trans htrap)]

/-- An ill-formed command fails a static check: its backend, or the range of its immediate. -/
theorem exec_of_not_wellFormed (h : i.wellFormed s.params = false) : ∃ c ∈ staticCauses, exec i s = trap c i s := by
  have hillegal : .illegalCommand ∈ staticCauses := by decide
  have hindex : .indexRange ∈ staticCauses := by decide
  have haccess : .csrAccess ∈ staticCauses := by decide
  cases i with
  | crd xd csr =>
    have hlt : 3 < csr.toNat := by simpa using h
    exact ⟨_, haccess, execCrd_of_none xd (s.readCsr_of_lt hlt)⟩
  | cwr csr xs =>
    rcases Nat.lt_or_ge 3 csr.toNat with hlt | hle
    · exact ⟨_, haccess, execCwr_of_lt s xs hlt⟩
    · obtain rfl | rfl | rfl | rfl := csr_cases_of_le hle
      · exact ⟨_, haccess, execCwr_hwcfg xs s⟩
      all_goals cases h
  | vset vd xs lane => exact ⟨_, hindex, exec_vset_of_le vd xs (by simpa using h)⟩
  | vget xd vs lane => exact ⟨_, hindex, exec_vget_of_le vs xd (by simpa using h)⟩
  | red61 xd xlo xhi => exact ⟨_, hillegal, exec_red61_of_not xd xlo xhi (by simpa using h)⟩
  | mulmod61 xd xa xb => exact ⟨_, hillegal, exec_mulmod61_of_not xd xa xb (by simpa using h)⟩
  | fmar89 qd xs qa qb => exact ⟨_, hillegal, exec_fmar89_of_not qd qa qb xs (by simpa using h)⟩
  | red89 xd qs => exact ⟨_, hillegal, exec_red89_of_not qs xd (by simpa using h)⟩
  | cset idx qs => exact ⟨_, hindex, exec_cset_of_le qs (by simpa using h)⟩
  | cget qd idx => exact ⟨_, hindex, exec_cget_of_le qd (by simpa using h)⟩
  -- the commands with no static check are well-formed on every instance
  | li | rd | pseed | pnext32 | pnext64 | mixa64 | mixa32 | mixb64 | vmixa | vmixb | vbcast | qset | qgetl | qgeth |
    peval | cgen | vpeval => cases h

/-- `CWR` of a number from 1 to 3 faults at most for the value of `CFG` (47_move_system R233). -/
theorem execCwr_ne_trap_of_wellFormed (hs : s.Running) {csr : Imm} (xs : XReg) (h1 : 1 ≤ csr.toNat) (h3 : csr.toNat ≤ 3)
    (hc : c ∈ staticCauses) : execCwr csr xs s ≠ trap c (.cwr csr xs) s := by
  obtain rfl | rfl | rfl | rfl := csr_cases_of_le h3
  · cases h1
  · by_cases hlegal : cfgLegal s.params (s.readX xs) = true
    · rw [execCwr_cfg_of_legal xs hlegal]
      exact finish_ne_trap hs
    · rw [execCwr_cfg_of_not_legal xs hlegal]
      intro h
      rw [← trap_inj h] at hc
      exact absurd hc (by decide)
  · exact finish_ne_trap hs
  · exact finish_ne_trap hs

/-- `FMAR89` with its backend faults at most for an overflow (45_mod89 R186). -/
theorem exec_fmar89_ne_trap_of_has (hs : s.Running) (qd qa qb : QReg) (xs : XReg) (h89 : s.params.has89 = true)
    (hc : c ∈ staticCauses) : exec (.fmar89 qd xs qa qb) s ≠ trap c (.fmar89 qd xs qa qb) s := by
  cases hr : fmar89 (s.readX xs) (s.readQ qa) (s.readQ qb) with
  | some r =>
    rw [exec_fmar89_of_some qd qa qb xs h89 hr]
    exact finish_ne_trap hs
  | none =>
    rw [exec_fmar89_of_none qd qa qb xs h89 hr]
    intro h
    rw [← trap_inj h] at hc
    exact absurd hc (by decide)

/-- A well-formed command in a running block passes the static checks: what it may still raise has another cause. -/
theorem exec_ne_trap_of_wellFormed (hs : s.Running) (h : i.wellFormed s.params = true) (hc : c ∈ staticCauses) :
    exec i s ≠ trap c i s := by
  cases i with
  | crd xd csr =>
    obtain ⟨w, hw⟩ := s.exists_readCsr_of_le (n := csr) (by simpa using h)
    rw [exec_crd, execCrd_of_some xd hw]
    exact finish_ne_trap hs
  | cwr csr xs =>
    obtain ⟨h1, h3⟩ : 1 ≤ csr.toNat ∧ csr.toNat ≤ 3 := by simpa using h
    exact execCwr_ne_trap_of_wellFormed hs xs h1 h3 hc
  | vset vd xs lane => exact exec_vset_of_lt vd xs (by simpa using h) ▸ finish_ne_trap hs
  | vget xd vs lane => exact exec_vget_of_lt vs xd (by simpa using h) ▸ finish_ne_trap hs
  | red61 xd xlo xhi => exact exec_red61_of_has xd xlo xhi (by simpa using h) ▸ finish_ne_trap hs
  | mulmod61 xd xa xb => exact exec_mulmod61_of_has xd xa xb (by simpa using h) ▸ finish_ne_trap hs
  | fmar89 qd xs qa qb => exact exec_fmar89_ne_trap_of_has hs qd qa qb xs (by simpa using h) hc
  | red89 xd qs => exact exec_red89_of_has qs xd (by simpa using h) ▸ finish_ne_trap hs
  | cset idx qs => exact exec_cset_of_lt qs (by simpa using h) ▸ finish_ne_trap hs
  | cget qd idx => exact exec_cget_of_lt qd (by simpa using h) ▸ finish_ne_trap hs
  -- the commands with no static check have no static cause in their list
  | li | rd | pseed | pnext32 | pnext64 | mixa64 | mixa32 | mixb64 | vmixa | vmixb | vbcast | qset | qgetl | qgeth |
    peval | cgen | vpeval =>
    intro htrap
    have hlisted := mem_mayRaise_of_trap hs htrap
    simp only [staticCauses, List.mem_cons, List.not_mem_nil, or_false] at hc
    rcases hc with rfl | rfl | rfl <;> simp [Instr.mayRaise] at hlisted

end StaticChecks

/-- Settles O11: an ill-formed command fails a static check, and a well-formed one takes no fault of such a cause. -/
theorem staticChecksAreWellFormedness : Obligations.StaticChecksAreWellFormedness := by
  intro i s hs
  simp only [← trap_eq_faulted]
  refine ⟨exec_of_not_wellFormed, ?_⟩
  rintro ⟨c, hc, htrap⟩
  exact Bool.eq_false_iff.mpr fun h => exec_ne_trap_of_wellFormed hs h hc htrap

section Occurrences

/-- The default instance without Backend 61. -/
def paramsWithout61 : Params := { Params.default with has61 := false }

/-- The default instance without Backend 89. -/
def paramsWithout89 : Params := { Params.default with has89 := false }

/-- The largest limb triple. -/
def largestLimbs : Limbs := ⟨0xFFFFFFFF, 0xFFFFFFFF, 0xFFFFFFFF⟩

/-- A state of the default instance in which a multiply-add overflows, as a command and in the evaluator: the largest
scalar in `x[1]`, the largest triple in `q[1]` and in both entries of an instance of Backend 89 with `K = 2`. -/
def saturated : State :=
  ((((State.reset.writeCfg 0x102).writeC 0 largestLimbs).writeC 1 largestLimbs).writeX 1 0xFFFFFFFFFFFFFFFF).writeQ 1
    largestLimbs

theorem reset_inv : State.reset.Inv := State.resetOf_inv (by decide)

theorem saturated_inv : saturated.Inv :=
  ((((reset_inv.writeCfg (by decide)).writeC (by decide) _).writeC (by decide) _).writeX _ _).writeQ _ _

variable {i : Instr} {c : Cause}

/-- The fault `c` of the command `i` occurs when a command with its mnemonic takes it in a state of the kind asked for. -/
theorem occurs_of_trap (j : Instr) (s : State) (hname : j.mnemonic = i.mnemonic) (hinv : s.Inv) (hs : s.Running)
    (h : exec j s = trap c j s) :
    ∃ (j : Instr) (s : State), j.mnemonic = i.mnemonic ∧ s.Inv ∧ s.Running ∧
      exec j s = .next (s.faulted (causeCode c) (encodeWord j)) :=
  ⟨j, s, hname, hinv, hs, h.trans (trap_eq_faulted s c j)⟩

end Occurrences

/-- Settles O10: for each entry of the list a command and a state in which it takes that fault. -/
theorem listedFaultsOccur : Obligations.ListedFaultsOccur := by
  intro i c hc
  have h61 : (State.resetOf paramsWithout61).Inv := State.resetOf_inv (by decide)
  have h89 : (State.resetOf paramsWithout89).Inv := State.resetOf_inv (by decide)
  cases i with
  | crd xd csr =>
    obtain rfl := List.mem_singleton.mp hc
    exact occurs_of_trap (.crd 0 4) .reset rfl reset_inv rfl
      ((exec_crd 0).trans (execCrd_of_none 0 (State.readCsr_of_lt _ (by decide))))
  | cwr csr xs =>
    rcases List.mem_pair.mp hc with rfl | rfl
    · exact occurs_of_trap (.cwr 0 0) .reset rfl reset_inv rfl (execCwr_hwcfg 0 _)
    · exact occurs_of_trap (.cwr 1 1) saturated rfl saturated_inv rfl
        ((exec_cwr 1 1 _).trans (execCwr_cfg_of_not_legal 1 (by decide)))
  | vset vd xs lane =>
    obtain rfl := List.mem_singleton.mp hc
    exact occurs_of_trap (.vset 0 0 4) .reset rfl reset_inv rfl (exec_vset_of_le 0 0 (by decide))
  | vget xd vs lane =>
    obtain rfl := List.mem_singleton.mp hc
    exact occurs_of_trap (.vget 0 0 4) .reset rfl reset_inv rfl (exec_vget_of_le 0 0 (by decide))
  | red61 xd xlo xhi =>
    obtain rfl := List.mem_singleton.mp hc
    exact occurs_of_trap (.red61 0 0 0) _ rfl h61 rfl (exec_red61_of_not 0 0 0 rfl)
  | mulmod61 xd xa xb =>
    obtain rfl := List.mem_singleton.mp hc
    exact occurs_of_trap (.mulmod61 0 0 0) _ rfl h61 rfl (exec_mulmod61_of_not 0 0 0 rfl)
  | fmar89 qd xs qa qb =>
    rcases List.mem_pair.mp hc with rfl | rfl
    · exact occurs_of_trap (.fmar89 0 0 0 0) _ rfl h89 rfl (exec_fmar89_of_not 0 0 0 0 rfl)
    · exact occurs_of_trap (.fmar89 0 1 1 1) saturated rfl saturated_inv rfl
        (exec_fmar89_of_none 0 1 1 1 rfl (by decide))
  | red89 xd qs =>
    obtain rfl := List.mem_singleton.mp hc
    exact occurs_of_trap (.red89 0 0) _ rfl h89 rfl (exec_red89_of_not 0 0 rfl)
  | peval xd xs =>
    rcases List.mem_pair.mp hc with rfl | rfl
    · exact occurs_of_trap (.peval 0 0) .reset rfl reset_inv rfl (execPeval_of_no_instance rfl 0 0)
    · exact occurs_of_trap (.peval 0 1) saturated rfl saturated_inv rfl
        (execPeval_of_none 0 1 (by decide) (by decide))
  | cgen =>
    obtain rfl := List.mem_singleton.mp hc
    exact occurs_of_trap .cgen .reset rfl reset_inv rfl (execCgen_of_no_instance rfl)
  | cset idx qs =>
    obtain rfl := List.mem_singleton.mp hc
    exact occurs_of_trap (.cset 16 0) .reset rfl reset_inv rfl (exec_cset_of_le 0 (by decide))
  | cget qd idx =>
    obtain rfl := List.mem_singleton.mp hc
    exact occurs_of_trap (.cget 0 16) .reset rfl reset_inv rfl (exec_cget_of_le 0 (by decide))
  | vpeval vd vs =>
    obtain rfl := List.mem_singleton.mp hc
    exact occurs_of_trap (.vpeval 0 0) .reset rfl reset_inv rfl (exec_vpeval _ 0 0)
  -- the commands whose list is empty
  | li | rd | pseed | pnext32 | pnext64 | mixa64 | mixa32 | mixb64 | vmixa | vmixb | vbcast | qset | qgetl | qgeth =>
    cases hc

end Sys2Proof.Machine
